-- ==== Sys2Proof/Word.lean ====
section
/-! DEFINITION. The value types of the rules. "Every quantity in a rule is a mathematical integer (unbounded, signed) unless the
rule says it is a bit or a code" (00_scope.md R11), so there is no machine word: a µs value is an `Int`, a count that the spec
calls natural or unsigned is a `Nat`, a code is a `BitVec`, and a line level is a `Level`. -/

namespace Sys2Proof

/-- The level of a one-bit line (20_memory.md R55): `true` is high. -/
abbrev Level := Bool

end Sys2Proof
end

