-- ==== Sys2Proof/Config.lean ====
section
/-! DEFINITION. The constants that take the place of control registers (10_state.md R36, R37). The values SVS or the spec
fixes are plain numbers (00_scope.md R6, R9). What the spec leaves open is a field of `Params`, "a fixed argument of every
run", and the machine's own set `Config.params` is built from uninterpreted constants that range over exactly the sets
70_reset_and_hazards.md R282 allows (log 1). -/

namespace Sys2Proof.Config

/-- `CENTER`, the nominal neutral pulse width (00_scope.md R6). -/
@[simp] abbrev CENTER : Int := 1500

/-- `MARGIN`, the hysteresis band around centre (00_scope.md R6). -/
@[simp] abbrev MARGIN : Int := 40

/-- `DEBOUNCE`, the minimum dwell before a return to centre (00_scope.md R6). -/
@[simp] abbrev DEBOUNCE : Nat := 4

/-- `CAL_WINDOW`, the half-width of the plausibility window (00_scope.md R6). -/
@[simp] abbrev CAL_WINDOW : Int := 1500

/-- `CAL_START`, the duration from which deviations are accumulated (00_scope.md R6). -/
@[simp] abbrev CAL_START : Nat := 10

/-- `CAL_END`, the duration at which calibration completes (00_scope.md R6). -/
@[simp] abbrev CAL_END : Nat := 20

/-- `CAL_DIV`, the divisor of the accumulated deviation (00_scope.md R6). -/
@[simp] abbrev CAL_DIV : Int := 10

/-- `FWD_NUM`, the numerator of the forward fraction (00_scope.md R6). -/
@[simp] abbrev FWD_NUM : Int := 2

/-- `FWD_DEN`, the denominator of the forward fraction (00_scope.md R6). -/
@[simp] abbrev FWD_DEN : Int := 5

/-- The microseconds in a second, the factor of 40_capture.md R108 and 41_emission.md R121. -/
@[simp] abbrev MICROS_PER_SECOND : Nat := 1000000

end Sys2Proof.Config

namespace Sys2Proof

/-- The parameter set of a build (00_scope.md R7, R8, R9). -/
structure Params where
  /-- `FWDFULL`, the full-throttle threshold in µs (R7). -/
  fwdFull : Int
  /-- `MAXBURST`, the burst allowance in iterations (R7). -/
  maxBurst : Nat
  /-- `REV_NUM`, the numerator of the reverse fraction (R7). -/
  revNum : Nat
  /-- `REV_DEN`, the denominator of the reverse fraction (R7). -/
  revDen : Nat
  /-- `F_CLK_HZ`, the clock frequency in hertz (R8). -/
  fClkHz : Nat
  /-- `CAP_CPL`, the clock cycles of one capture quantum (R8). -/
  capCpl : Nat
  /-- `EMIT_CPL`, the clock cycles of one emission quantum (R8). -/
  emitCpl : Nat
  /-- `DUR_MAX`, the saturation value of `StateDuration` (R9). -/
  durMax : Nat
  /-- `RAW_MAX`, the largest raw width a capture delivers without a fault (R9). -/
  rawMax : Nat
  /-- `T_PROC` in clock cycles, the duration of classify-and-scale (45_loop.md R226, 92 D24; log 17). -/
  tProc : Nat
deriving DecidableEq, Repr

end Sys2Proof

namespace Sys2Proof.Config

/-- `2 * MAXBURST`, the value the burst counter locks at (00_scope.md R6, `BURST_LOCK`). -/
def burstLock (p : Params) : Int := 2 * p.maxBurst

/-- The open value of `FWDFULL`: any integer (93 U1). -/
opaque fwdFull : Int

/-- The open value of `MAXBURST`, less one: `MAXBURST` is any of 1 .. 63 (93 U2). -/
opaque maxBurstLessOne : Fin 63

/-- The open value of `REV_NUM`, less one: `REV_NUM` is 1 or 2 (93 U3). -/
opaque revNumLessOne : Fin 2

/-- The open excess of `REV_DEN` over `REV_NUM`: `REV_DEN` is any number not below `REV_NUM` (93 U3). -/
opaque revDenExcess : Nat

/-- The open value of `F_CLK_HZ`, less one: any positive integer (93 U4). -/
opaque fClkHzLessOne : Nat

/-- The open value of `CAP_CPL`, less one: any positive integer (93 U4). -/
opaque capCplLessOne : Nat

/-- The open value of `EMIT_CPL`, less one: any positive integer (93 U4). -/
opaque emitCplLessOne : Nat

/-- The open value of `T_PROC`: any number of clock cycles (93 U11). -/
opaque tProc : Nat

/-- The free level of `ppm_in` at the step with this index: the receiver "may drive any sequence of levels at any time"
(20_memory.md R63; 93 U10; log 2). -/
opaque ppmInLevel : Nat → Level

/-- The free clock edge of the step with this index at which `rst` is high: "reset may be applied at any time"
(70_reset_and_hazards.md R270; log 2). -/
opaque rstEdge : Nat → Option Nat

/-- The free instant inside `LOOP.COMPUTE` at which `ind` and `rear_en` change, in the step with this index: "the rules fix only the
order of the port writes inside it" (45_loop.md R226; log 18). -/
opaque indicatorDelay : Nat → Nat

/-- The parameter set of this machine: `DUR_MAX` and `RAW_MAX` at the spec's values (00_scope.md R9), the rest open
(log 1). -/
def params : Params :=
  { fwdFull := fwdFull
    maxBurst := maxBurstLessOne.val + 1
    revNum := revNumLessOne.val + 1
    revDen := revNumLessOne.val + 1 + revDenExcess
    fClkHz := fClkHzLessOne + 1
    capCpl := capCplLessOne + 1
    emitCpl := emitCplLessOne + 1
    durMax := 255
    rawMax := 16383
    tProc := tProc }

end Sys2Proof.Config
end

