-- ==== Sys2Proof/Syntax.lean ====
section
/-! DEFINITION. The closed sets of the spec (states, phases, indicator values, width classes), the four decision-word formats
as records of their fields, and the operations: one constructor per row of spec/opcode_table.json. An operation has no operand
field: "no field is an immediate carried in a word; every field is computed from state" (30_encoding.md R79). -/

namespace Sys2Proof

/-- `DrivingState`, "exactly six values" (10_state.md R21), in the order of 30_encoding.md R71. -/
inductive DrivingState where
  | centering | idle | reverse | forward | stopped | braking
deriving DecidableEq, Repr

/-- `PHASE`, the five parts of the control loop (10_state.md R30), in the order of 30_encoding.md R73. -/
inductive Phase where
  | align | arm | measure | compute | emit
deriving DecidableEq, Repr

/-- The indicator value `IND` (30_encoding.md R72). -/
inductive Indicator where
  | off | limited | syncing
deriving DecidableEq, Repr

/-- The width class `CLS` (30_encoding.md R74, 43_state_machine.md R161). -/
inductive WidthClass where
  | mid | pos | neg
deriving DecidableEq, Repr

/-- The formats of decision words (30_encoding.md R70); `u` is the zero-width word of `DUR.INC`. -/
inductive Format where
  | ph | cal | dsm | pol | u
deriving DecidableEq, Repr

/-- A word of format `PH` by its fields (30_encoding.md R75). The phase field is a raw code, so a reserved code can stand in
it. -/
structure PhWord where
  phase : BitVec 3
  x : Bool
deriving DecidableEq, Repr

/-- A word of format `CAL` by its fields (30_encoding.md R76). -/
structure CalWord where
  plaus : Bool
  geEnd : Bool
  geStart : Bool
deriving DecidableEq, Repr

/-- A word of format `DSM` by its fields (30_encoding.md R77). -/
structure DsmWord where
  state : BitVec 3
  cls : BitVec 2
  dwell : Bool
deriving DecidableEq, Repr

/-- A word of format `POL` by its fields (30_encoding.md R78); `state` is the code of the new state. -/
structure PolWord where
  state : BitVec 3
  full : Bool
  avail : Bool
deriving DecidableEq, Repr

/-- A row of the operation map: the word `x` of format `format` selects it when `x AND mask = pattern`
(30_encoding.md section 4). -/
structure TableRow where
  format : Format
  pattern : Nat
  mask : Nat
deriving DecidableEq, Repr

/-- Why a number is no decision word of a format. -/
inductive DecodeError where
  /-- The number has a bit above the format's width. -/
  | tooWide (format : Format) (word : Nat)
  /-- The word contains a reserved code (30_encoding.md R84). -/
  | illegalCode (format : Format) (word : Nat)
deriving DecidableEq, Repr

/-- The operations, one per row of spec/opcode_table.json, in the table's order. -/
inductive Instr where
  /-- `CAP.ALIGN.EXIT`, 40_capture.md R103. -/
  | capAlignExit
  /-- `CAP.ALIGN.WAIT`, 40_capture.md R102. -/
  | capAlignWait
  /-- `CAP.ARM.WAIT`, 40_capture.md R104. -/
  | capArmWait
  /-- `CAP.ARM.START`, 40_capture.md R105. -/
  | capArmStart
  /-- `CAP.MEAS.END`, 40_capture.md R107. -/
  | capMeasEnd
  /-- `CAP.MEAS.COUNT`, 40_capture.md R106. -/
  | capMeasCount
  /-- `LOOP.COMPUTE`, 45_loop.md R223. -/
  | loopCompute
  /-- `EMIT.HOLD`, 41_emission.md R123. -/
  | emitHold
  /-- `EMIT.END`, 41_emission.md R124. -/
  | emitEnd
  /-- `CAL.HOLD`, 42_calibration.md R144. -/
  | calHold
  /-- `CAL.SETTLE`, 42_calibration.md R145. -/
  | calSettle
  /-- `CAL.ACC`, 42_calibration.md R146. -/
  | calAcc
  /-- `CAL.DONE`, 42_calibration.md R147. -/
  | calDone
  /-- `DSM.IDLE_STAY`, 43_state_machine.md R166. -/
  | dsmIdleStay
  /-- `DSM.IDLE_FWD`, 43_state_machine.md R165. -/
  | dsmIdleFwd
  /-- `DSM.IDLE_REV`, 43_state_machine.md R164. -/
  | dsmIdleRev
  /-- `DSM.REV_WAIT`, 43_state_machine.md R170. -/
  | dsmRevWait
  /-- `DSM.REV_IDLE`, 43_state_machine.md R168. -/
  | dsmRevIdle
  /-- `DSM.REV_FWD`, 43_state_machine.md R167. -/
  | dsmRevFwd
  /-- `DSM.REV_KEEP`, 43_state_machine.md R169. -/
  | dsmRevKeep
  /-- `DSM.FWD_WAIT`, 43_state_machine.md R174. -/
  | dsmFwdWait
  /-- `DSM.FWD_STOP`, 43_state_machine.md R172. -/
  | dsmFwdStop
  /-- `DSM.FWD_KEEP`, 43_state_machine.md R173. -/
  | dsmFwdKeep
  /-- `DSM.FWD_BRK`, 43_state_machine.md R171. -/
  | dsmFwdBrk
  /-- `DSM.STOP_STAY`, 43_state_machine.md R177. -/
  | dsmStopStay
  /-- `DSM.STOP_FWD`, 43_state_machine.md R175. -/
  | dsmStopFwd
  /-- `DSM.STOP_BRK`, 43_state_machine.md R176. -/
  | dsmStopBrk
  /-- `DSM.BRK_WAIT`, 43_state_machine.md R181. -/
  | dsmBrkWait
  /-- `DSM.BRK_IDLE`, 43_state_machine.md R179. -/
  | dsmBrkIdle
  /-- `DSM.BRK_FWD`, 43_state_machine.md R178. -/
  | dsmBrkFwd
  /-- `DSM.BRK_KEEP`, 43_state_machine.md R180. -/
  | dsmBrkKeep
  /-- `POL.SYNC`, 44_scaling.md R194. -/
  | polSync
  /-- `POL.PASS.IDLE`, 44_scaling.md R195. -/
  | polPassIdle
  /-- `POL.REV`, 44_scaling.md R198. -/
  | polRev
  /-- `POL.FWD_CAP`, 44_scaling.md R200. -/
  | polFwdCap
  /-- `POL.FWD_LOCKOUT`, 44_scaling.md R201. -/
  | polFwdLockout
  /-- `POL.FWD_BURST`, 44_scaling.md R199. -/
  | polFwdBurst
  /-- `POL.PASS.STOP`, 44_scaling.md R196. -/
  | polPassStop
  /-- `POL.PASS.BRK`, 44_scaling.md R197. -/
  | polPassBrk
  /-- `DUR.INC`, 45_loop.md R225. -/
  | durInc
deriving DecidableEq, Repr

end Sys2Proof
end

