-- ==== Sys2Proof/WellFormed.lean ====
section
/-! DEFINITION. The checks made before a run. An operation has no operand field, so every `Instr` is well formed; what can be
ill formed is a parameter set ("checked when a model is instantiated and never at run time", 70_reset_and_hazards.md R282) and
a number offered as a decision word (30_encoding.md R84). -/

namespace Sys2Proof

/-- The constraints a parameter set must meet (70_reset_and_hazards.md R282); `FWDFULL` is any integer and `T_PROC` any
number. -/
def Params.wf (p : Params) : Bool :=
  decide (1 ≤ p.maxBurst) && decide (p.maxBurst ≤ 63) &&
  decide (0 < p.revNum) && decide (p.revNum ≤ p.revDen) && decide (p.revNum ≤ 2) &&
  decide (0 < p.fClkHz) && decide (0 < p.capCpl) && decide (0 < p.emitCpl) &&
  decide (Config.CAL_END ≤ p.durMax) && decide (3000 ≤ p.rawMax) && decide (p.rawMax ≤ 16383)

/-- The width in bits of a format's words (30_encoding.md R75 to R78, R70). -/
def Format.width : Format → Nat
  | .ph => 4
  | .cal => 3
  | .dsm => 6
  | .pol => 5
  | .u => 0

/-- A number is a legal decision word of a format when it has no bit above the width and no field of it holds a reserved code:
phase codes 5 to 7, state codes 6 and 7, class code 3, and state `Centering` in format `DSM` (30_encoding.md R84). -/
def wordLegal (f : Format) (w : Nat) : Bool :=
  decide (w < 2 ^ f.width) &&
  match f with
  | .ph => decide (w / 2 < 5)
  | .cal => true
  | .dsm => decide (1 ≤ w / 8) && decide (w / 8 ≤ 5) && decide (w / 2 % 4 < 3)
  | .pol => decide (w / 4 < 6)
  | .u => true

/-- Every operation is well formed: no row of the table has an operand field (30_encoding.md R79). -/
def Instr.wf (_ : Instr) : Bool := true

end Sys2Proof
end

