-- ==== Sys2Proof/Decode.lean ====
section
/-! DEFINITION. The codes (30_encoding.md R71 to R74), the decision words as numbers (R75 to R78), the decoder, written from the
prose of R80 to R83 on the fields of a word, and the encoder, written from the rows of spec/opcode_table.json. A number that
contains a reserved code is rejected by name, never read as some other operation (R84). -/

namespace Sys2Proof

/-- The stored code of a state (30_encoding.md R71). -/
def DrivingState.code : DrivingState → BitVec 3
  | .centering => 0#3
  | .idle => 1#3
  | .reverse => 2#3
  | .forward => 3#3
  | .stopped => 4#3
  | .braking => 5#3

/-- The state a code stands for; codes 6 and 7 are reserved (30_encoding.md R71, R84). -/
def DrivingState.ofCode (c : BitVec 3) : Option DrivingState :=
  match c.toNat with
  | 0 => some .centering
  | 1 => some .idle
  | 2 => some .reverse
  | 3 => some .forward
  | 4 => some .stopped
  | 5 => some .braking
  | _ => none

/-- The code of a phase (30_encoding.md R73). -/
def Phase.code : Phase → BitVec 3
  | .align => 0#3
  | .arm => 1#3
  | .measure => 2#3
  | .compute => 3#3
  | .emit => 4#3

/-- The phase a code stands for; codes 5 to 7 are reserved (30_encoding.md R73, R84). -/
def Phase.ofCode (c : BitVec 3) : Option Phase :=
  match c.toNat with
  | 0 => some .align
  | 1 => some .arm
  | 2 => some .measure
  | 3 => some .compute
  | 4 => some .emit
  | _ => none

/-- The code of an indicator value, as presented on port `ind` (30_encoding.md R72). -/
def Indicator.code : Indicator → BitVec 2
  | .off => 0#2
  | .limited => 1#2
  | .syncing => 2#2

/-- The code of a width class (30_encoding.md R74). -/
def WidthClass.code : WidthClass → BitVec 2
  | .mid => 0#2
  | .pos => 1#2
  | .neg => 2#2

/-- The class a code stands for; code 3 is reserved (30_encoding.md R74, R84). -/
def WidthClass.ofCode (c : BitVec 2) : Option WidthClass :=
  match c.toNat with
  | 0 => some .mid
  | 1 => some .pos
  | 2 => some .neg
  | _ => none

/-- The slice `w[lo+len-1 : lo]` of a word (00_scope.md R10). -/
def wordField (w lo len : Nat) : Nat := w / 2 ^ lo % 2 ^ len

/-- Bit `i` of a word; bit 0 is the least significant (00_scope.md R10). -/
def wordBit (w i : Nat) : Bool := wordField w i 1 == 1

/-- The fields of a `PH` word: `PHASE` in `[3:1]`, `X` in `[0]` (30_encoding.md R75). -/
def PhWord.ofNat (w : Nat) : PhWord := ⟨BitVec.ofNat 3 (wordField w 1 3), wordBit w 0⟩

/-- A `PH` word as a number (30_encoding.md R75). -/
def PhWord.toNat (w : PhWord) : Nat := w.phase.toNat * 2 + w.x.toNat

/-- The fields of a `CAL` word: `PLAUS` in `[2]`, `GE_END` in `[1]`, `GE_START` in `[0]` (30_encoding.md R76). -/
def CalWord.ofNat (w : Nat) : CalWord := ⟨wordBit w 2, wordBit w 1, wordBit w 0⟩

/-- A `CAL` word as a number (30_encoding.md R76). -/
def CalWord.toNat (w : CalWord) : Nat := w.plaus.toNat * 4 + w.geEnd.toNat * 2 + w.geStart.toNat

/-- The fields of a `DSM` word: `S` in `[5:3]`, `CLS` in `[2:1]`, `DWELL` in `[0]` (30_encoding.md R77). -/
def DsmWord.ofNat (w : Nat) : DsmWord :=
  ⟨BitVec.ofNat 3 (wordField w 3 3), BitVec.ofNat 2 (wordField w 1 2), wordBit w 0⟩

/-- A `DSM` word as a number (30_encoding.md R77). -/
def DsmWord.toNat (w : DsmWord) : Nat := w.state.toNat * 8 + w.cls.toNat * 2 + w.dwell.toNat

/-- The fields of a `POL` word: `S'` in `[4:2]`, `FULL` in `[1]`, `AVAIL` in `[0]` (30_encoding.md R78). -/
def PolWord.ofNat (w : Nat) : PolWord := ⟨BitVec.ofNat 3 (wordField w 2 3), wordBit w 1, wordBit w 0⟩

/-- A `POL` word as a number (30_encoding.md R78). -/
def PolWord.toNat (w : PolWord) : Nat := w.state.toNat * 4 + w.full.toNat * 2 + w.avail.toNat

/-- The operation a `PH` word selects (30_encoding.md R80); `none` for a reserved phase code. -/
def decodePh (w : PhWord) : Option Instr :=
  match Phase.ofCode w.phase with
  | none => none
  | some .align => some (if w.x then .capAlignWait else .capAlignExit)
  | some .arm => some (if w.x then .capArmStart else .capArmWait)
  | some .measure => some (if w.x then .capMeasCount else .capMeasEnd)
  | some .compute => some .loopCompute
  | some .emit => some (if w.x then .emitEnd else .emitHold)

/-- The operation a `CAL` word selects: plausibility first, then the upper threshold, then the lower (30_encoding.md R81,
42_calibration.md R142). Every word is legal, the two that are never generated too (R76). -/
def decodeCal (w : CalWord) : Instr :=
  if !w.plaus then .calHold
  else if w.geEnd then .calDone
  else if w.geStart then .calAcc
  else .calSettle

/-- The operation a `DSM` word selects (30_encoding.md R82); `none` for a reserved state or class code and for `Centering`. -/
def decodeDsm (w : DsmWord) : Option Instr :=
  match DrivingState.ofCode w.state, WidthClass.ofCode w.cls with
  | some .idle, some .mid => some .dsmIdleStay
  | some .idle, some .pos => some .dsmIdleFwd
  | some .idle, some .neg => some .dsmIdleRev
  | some .reverse, some .mid => some (if w.dwell then .dsmRevIdle else .dsmRevWait)
  | some .reverse, some .pos => some .dsmRevFwd
  | some .reverse, some .neg => some .dsmRevKeep
  | some .forward, some .mid => some (if w.dwell then .dsmFwdStop else .dsmFwdWait)
  | some .forward, some .pos => some .dsmFwdKeep
  | some .forward, some .neg => some .dsmFwdBrk
  | some .stopped, some .mid => some .dsmStopStay
  | some .stopped, some .pos => some .dsmStopFwd
  | some .stopped, some .neg => some .dsmStopBrk
  | some .braking, some .mid => some (if w.dwell then .dsmBrkIdle else .dsmBrkWait)
  | some .braking, some .pos => some .dsmBrkFwd
  | some .braking, some .neg => some .dsmBrkKeep
  | some .centering, _ => none
  | none, _ => none
  | _, none => none

/-- The operation a `POL` word selects (30_encoding.md R83); `none` for a reserved state code. -/
def decodePol (w : PolWord) : Option Instr :=
  match DrivingState.ofCode w.state with
  | none => none
  | some .centering => some .polSync
  | some .idle => some .polPassIdle
  | some .reverse => some .polRev
  | some .forward => some (if w.full then (if w.avail then .polFwdBurst else .polFwdLockout) else .polFwdCap)
  | some .stopped => some .polPassStop
  | some .braking => some .polPassBrk

/-- The operation a number selects in a format whose width it fits. -/
def decodeFields : Format → Nat → Option Instr
  | .ph, w => decodePh (PhWord.ofNat w)
  | .cal, w => some (decodeCal (CalWord.ofNat w))
  | .dsm, w => decodeDsm (DsmWord.ofNat w)
  | .pol, w => decodePol (PolWord.ofNat w)
  | .u, _ => some .durInc

/-- The decoder of the operation map: any number, in any format (30_encoding.md R80 to R84). -/
def decode (f : Format) (w : Nat) : Except DecodeError Instr :=
  if 2 ^ f.width ≤ w then .error (.tooWide f w)
  else match decodeFields f w with
    | some i => .ok i
    | none => .error (.illegalCode f w)

/-- The row of the operation map, spec/opcode_table.json (30_encoding.md R80 to R83, 45_loop.md R225). -/
def Instr.row : Instr → TableRow
  | .capAlignExit => ⟨.ph, 0x00, 0x0F⟩
  | .capAlignWait => ⟨.ph, 0x01, 0x0F⟩
  | .capArmWait => ⟨.ph, 0x02, 0x0F⟩
  | .capArmStart => ⟨.ph, 0x03, 0x0F⟩
  | .capMeasEnd => ⟨.ph, 0x04, 0x0F⟩
  | .capMeasCount => ⟨.ph, 0x05, 0x0F⟩
  | .loopCompute => ⟨.ph, 0x06, 0x0E⟩
  | .emitHold => ⟨.ph, 0x08, 0x0F⟩
  | .emitEnd => ⟨.ph, 0x09, 0x0F⟩
  | .calHold => ⟨.cal, 0x00, 0x04⟩
  | .calSettle => ⟨.cal, 0x04, 0x07⟩
  | .calAcc => ⟨.cal, 0x05, 0x07⟩
  | .calDone => ⟨.cal, 0x06, 0x06⟩
  | .dsmIdleStay => ⟨.dsm, 0x08, 0x3E⟩
  | .dsmIdleFwd => ⟨.dsm, 0x0A, 0x3E⟩
  | .dsmIdleRev => ⟨.dsm, 0x0C, 0x3E⟩
  | .dsmRevWait => ⟨.dsm, 0x10, 0x3F⟩
  | .dsmRevIdle => ⟨.dsm, 0x11, 0x3F⟩
  | .dsmRevFwd => ⟨.dsm, 0x12, 0x3E⟩
  | .dsmRevKeep => ⟨.dsm, 0x14, 0x3E⟩
  | .dsmFwdWait => ⟨.dsm, 0x18, 0x3F⟩
  | .dsmFwdStop => ⟨.dsm, 0x19, 0x3F⟩
  | .dsmFwdKeep => ⟨.dsm, 0x1A, 0x3E⟩
  | .dsmFwdBrk => ⟨.dsm, 0x1C, 0x3E⟩
  | .dsmStopStay => ⟨.dsm, 0x20, 0x3E⟩
  | .dsmStopFwd => ⟨.dsm, 0x22, 0x3E⟩
  | .dsmStopBrk => ⟨.dsm, 0x24, 0x3E⟩
  | .dsmBrkWait => ⟨.dsm, 0x28, 0x3F⟩
  | .dsmBrkIdle => ⟨.dsm, 0x29, 0x3F⟩
  | .dsmBrkFwd => ⟨.dsm, 0x2A, 0x3E⟩
  | .dsmBrkKeep => ⟨.dsm, 0x2C, 0x3E⟩
  | .polSync => ⟨.pol, 0x00, 0x1C⟩
  | .polPassIdle => ⟨.pol, 0x04, 0x1C⟩
  | .polRev => ⟨.pol, 0x08, 0x1C⟩
  | .polFwdCap => ⟨.pol, 0x0C, 0x1E⟩
  | .polFwdLockout => ⟨.pol, 0x0E, 0x1F⟩
  | .polFwdBurst => ⟨.pol, 0x0F, 0x1F⟩
  | .polPassStop => ⟨.pol, 0x10, 0x1C⟩
  | .polPassBrk => ⟨.pol, 0x14, 0x1C⟩
  | .durInc => ⟨.u, 0x00, 0x00⟩

/-- The mnemonic of the row (30_encoding.md R90). -/
def Instr.mnemonic : Instr → String
  | .capAlignExit => "CAP.ALIGN.EXIT"
  | .capAlignWait => "CAP.ALIGN.WAIT"
  | .capArmWait => "CAP.ARM.WAIT"
  | .capArmStart => "CAP.ARM.START"
  | .capMeasEnd => "CAP.MEAS.END"
  | .capMeasCount => "CAP.MEAS.COUNT"
  | .loopCompute => "LOOP.COMPUTE"
  | .emitHold => "EMIT.HOLD"
  | .emitEnd => "EMIT.END"
  | .calHold => "CAL.HOLD"
  | .calSettle => "CAL.SETTLE"
  | .calAcc => "CAL.ACC"
  | .calDone => "CAL.DONE"
  | .dsmIdleStay => "DSM.IDLE_STAY"
  | .dsmIdleFwd => "DSM.IDLE_FWD"
  | .dsmIdleRev => "DSM.IDLE_REV"
  | .dsmRevWait => "DSM.REV_WAIT"
  | .dsmRevIdle => "DSM.REV_IDLE"
  | .dsmRevFwd => "DSM.REV_FWD"
  | .dsmRevKeep => "DSM.REV_KEEP"
  | .dsmFwdWait => "DSM.FWD_WAIT"
  | .dsmFwdStop => "DSM.FWD_STOP"
  | .dsmFwdKeep => "DSM.FWD_KEEP"
  | .dsmFwdBrk => "DSM.FWD_BRK"
  | .dsmStopStay => "DSM.STOP_STAY"
  | .dsmStopFwd => "DSM.STOP_FWD"
  | .dsmStopBrk => "DSM.STOP_BRK"
  | .dsmBrkWait => "DSM.BRK_WAIT"
  | .dsmBrkIdle => "DSM.BRK_IDLE"
  | .dsmBrkFwd => "DSM.BRK_FWD"
  | .dsmBrkKeep => "DSM.BRK_KEEP"
  | .polSync => "POL.SYNC"
  | .polPassIdle => "POL.PASS.IDLE"
  | .polRev => "POL.REV"
  | .polFwdCap => "POL.FWD_CAP"
  | .polFwdLockout => "POL.FWD_LOCKOUT"
  | .polFwdBurst => "POL.FWD_BURST"
  | .polPassStop => "POL.PASS.STOP"
  | .polPassBrk => "POL.PASS.BRK"
  | .durInc => "DUR.INC"

/-- The format whose words select the operation. -/
def Instr.format (i : Instr) : Format := i.row.format

/-- The bits of a format that a row ignores: the `x` bits of 30_encoding.md R80 to R83. -/
def TableRow.ignored (r : TableRow) : Nat := (2 ^ r.format.width - 1) ^^^ r.mask

/-- The word of an operation with its ignored bits taken from `x`. -/
def encodeWith (i : Instr) (x : Nat) : Nat := i.row.pattern ||| (x &&& i.row.ignored)

/-- The word of an operation with its ignored bits 0 ("ignored by the decode, written as 0", 30_encoding.md R75). -/
def encode (i : Instr) : Nat := encodeWith i 0

/-- The first of the formats in which the number is a legal decision word, with its operation. -/
def decodeFirst (w : Nat) : List Format → Option Instr
  | [] => none
  | f :: fs =>
    match decode f w with
    | .ok i => some i
    | .error _ => decodeFirst w fs

/-- The operation read from a number alone, without the decision point that tells its format (log 7). The table's widths tell
the formats apart; a count of bits rounded up to bytes does not, and then the word is read in the first of `PH`, `DSM`, `POL`,
`CAL` in which it is legal. -/
def decodeTableWord (nbits w : Nat) : Option Instr :=
  match nbits with
  | 0 => decodeFirst w [.u]
  | 3 => decodeFirst w [.cal]
  | 4 => decodeFirst w [.ph]
  | 5 => decodeFirst w [.pol]
  | 6 => decodeFirst w [.dsm]
  | _ => decodeFirst w [.ph, .dsm, .pol, .cal]

end Sys2Proof
end

