-- ==== Sys2Proof/Machine/State.lean ====
section
/-! DEFINITION. The state of the machine as plain data, the reasons a step can stop, and the state after reset. The first twelve
fields are all the state the spec gives the hardware (10_state.md R20 to R24, R30 to R32, R34); the last five are the model's
own (logs 2, 5, 13, 14). The hardware has no memory (20_memory.md R50). -/

namespace Sys2Proof.Machine

/-- What the environment puts on the two input ports during one step (20_memory.md R51, R63). -/
structure Pins where
  /-- The first clock edge of the step at which `rst` is high, 0 being the edge that begins the step; `none` where `rst` is low
  at every edge (70_reset_and_hazards.md R270; logs 2, 3). -/
  rst : Option Nat
  /-- The level of `ppm_in` at the sample of the step (40_capture.md R101). -/
  ppmIn : Level
deriving DecidableEq, Repr

/-- The state of the machine. -/
structure State where
  /-- `S`, `DrivingState` (10_state.md R21). -/
  S : DrivingState
  /-- `D`, `StateDuration` (10_state.md R22). -/
  D : Nat
  /-- `OFF`, `CalibrationOffset`: a running sum in `Centering`, the average afterwards (10_state.md R23). -/
  OFF : Int
  /-- `B`, `BurstCounter`, "a signed counter" (10_state.md R24). -/
  B : Int
  /-- `PHASE`, the sequencer register (10_state.md R30). -/
  PHASE : Phase
  /-- `NCNT`, the capture counter, "a natural number with no upper bound" (10_state.md R31). -/
  NCNT : Nat
  /-- `ECNT`, the emission counter (10_state.md R32). -/
  ECNT : Int
  /-- `ppm_out`, the output line (10_state.md R34). -/
  ppmOut : Level
  /-- `IND`, the indicator output (10_state.md R34). -/
  IND : Indicator
  /-- `REAR`, the rear-light enable (10_state.md R34). -/
  REAR : Level
  /-- `RAWQ`, the last raw width, never negative (10_state.md R34, 20_memory.md R53). -/
  RAWQ : Nat
  /-- `raw_strobe` (10_state.md R34). -/
  rawStrobe : Level
  /-- The corrected width `w` of the iteration, transient (10_state.md R25; log 5). -/
  w : Int
  /-- The scaled width `v` of the iteration, transient (10_state.md R25; log 5). -/
  v : Int
  /-- The inputs the environment has lined up, one entry a step; after the last one they are free (log 2). -/
  stimulus : List Pins
  /-- The index of this step, at which a free input is read (log 2). -/
  tick : Nat
  /-- Clock edges elapsed (log 14). -/
  clk : Nat
deriving DecidableEq, Repr

/-- The three outcomes in which the rules have no defined result (60_exceptions.md R240). They end the run; no state is left
(R249). Each is safe: the model claims nothing where the hardware goes on in some way SVS does not give. -/
inductive Fault where
  /-- `CaptureRange`: a captured count converts to more than `RAW_MAX`. Raised by `CAP.MEAS.END` with `info` the count, and
  by the iteration function with `info` the raw width (60_exceptions.md R241). Safe. -/
  | captureRange (info : Nat)
  /-- `EmitRange`: the output width is negative. Raised by `EmitStart` inside `LOOP.COMPUTE` (60_exceptions.md R242). Safe. -/
  | emitRange (out : Int)
  /-- `IllegalCode`: a decision word contains a reserved code. Raised where a word is decoded (60_exceptions.md R243); no word
  assembled from a `State` contains one (log 11). Safe. -/
  | illegalCode (format : Format) (word : Nat)
deriving DecidableEq, Repr

/-- The code of a fault outcome (60_exceptions.md R241 to R243). -/
def Fault.code : Fault → Nat
  | .captureRange _ => 1
  | .emitRange _ => 2
  | .illegalCode _ _ => 3

/-- Why an instruction has no meaning in the model. No instruction of this model is refused. -/
inductive Refusal where
  /-- The instruction is not modelled: raised by an arm of `exec`, none at present. Safe. -/
  | notModelled (mnemonic : String)
deriving DecidableEq, Repr

/-- The state after reset: the spec's values (10_state.md R38), and the model's own fields empty (log 13). -/
def State.reset : State :=
  { S := .centering, D := 0, OFF := 0, B := 0
    PHASE := .align, NCNT := 0, ECNT := 0
    ppmOut := false, IND := .syncing, REAR := false, RAWQ := 0, rawStrobe := false
    w := 0, v := 0
    stimulus := [], tick := 0, clk := 0 }

end Sys2Proof.Machine
end

