-- ==== Sys2Proof/Machine/Flags.lean ====
section
/-! DEFINITION. The condition predicates. The hardware stores no flag: each is "a pure function of the registers and of this
iteration's corrected width, computed when needed and not kept" (10_state.md R33). -/

namespace Sys2Proof.Machine

/-- `PLAUS`: both ends of the window are inside (42_calibration.md R143). -/
def plausible (w : Int) : Bool := decide (-Config.CAL_WINDOW ≤ w) && decide (w ≤ Config.CAL_WINDOW)

/-- `GE_START` (30_encoding.md R76). -/
def geStart (D : Nat) : Bool := decide (Config.CAL_START ≤ D)

/-- `GE_END` (30_encoding.md R76). -/
def geEnd (D : Nat) : Bool := decide (Config.CAL_END ≤ D)

/-- `CLS` (43_state_machine.md R161). -/
def widthClass (w : Int) : WidthClass :=
  if w ≤ -Config.MARGIN then .neg else if Config.MARGIN ≤ w then .pos else .mid

/-- `DWELL` (43_state_machine.md R163). -/
def dwell (D : Nat) : Bool := decide (Config.DEBOUNCE ≤ D)

/-- `FULL`: a width equal to `FWDFULL` is a full command (44_scaling.md R191). -/
def full (p : Params) (w : Int) : Bool := decide (p.fwdFull ≤ w)

/-- `AVAIL` (44_scaling.md R191). -/
def avail (p : Params) (B : Int) : Bool := decide (B < p.maxBurst)

/-- `LAST`, the bit `X` of a `PH` word in `EMIT` (30_encoding.md R75; log 16). -/
def lastQuantum (ECNT : Int) : Bool := decide (ECNT = 1)

end Sys2Proof.Machine
end

