-- ==== Sys2Proof/Machine/Ops.lean ====
section
/-! DEFINITION. The primitives of the rules (00_scope.md R12 to R16), the conversions of capture and emission, and the named
operations on the state that the meanings share. -/

namespace Sys2Proof.Machine

/-- The outcome of an operation. -/
abbrev Result := Host.Outcome State Fault Refusal

/-- Ends the run in a fault outcome: "nothing is saved anywhere and control goes nowhere" (00_scope.md R16,
60_exceptions.md R249). -/
def raise (f : Fault) : Result := .fault f

/-- `quot(a, b)`, division that truncates toward zero (00_scope.md R12). -/
def quot (a b : Int) : Int := if 0 ≤ a then a / b else -(-a / b)

/-- `scale(w, num, den)`: the product first, then the division (00_scope.md R13). -/
def scale (w num den : Int) : Int := quot (w * num) den

/-- `satinc(x, max)` (00_scope.md R14). -/
def satinc (x max : Nat) : Nat := min (x + 1) max

/-- `satdec(x)` on the unsigned duration (00_scope.md R14). -/
def satdec (x : Nat) : Nat := max (x - 1) 0

/-- `satdec(x)` on the signed burst counter (00_scope.md R14, 44_scaling.md R193). -/
def satdecSigned (x : Int) : Int := max (x - 1) 0

/-- `binc(B)`, the increment that locks at `2 * MAXBURST` (44_scaling.md R192). -/
def binc (p : Params) (B : Int) : Int := if (p.maxBurst : Int) ≤ B + 1 then Config.burstLock p else B + 1

/-- `conv(n)`, capture samples to µs: the product of `n`, `CAP_CPL` and `10^6` first, then one division, rounding down
(40_capture.md R108). -/
def conv (p : Params) (n : Nat) : Nat := Config.MICROS_PER_SECOND * (p.capCpl * n) / p.fClkHz

/-- `EmitCount(out)`, µs to emission quanta, rounding down, plus one quantum (41_emission.md R121). -/
def emitCount (p : Params) (out : Int) : Int :=
  out * p.fClkHz / (Config.MICROS_PER_SECOND * p.emitCpl : Nat) + 1

/-- The state machine's transition: the new state, the duration restarted (43_state_machine.md R162). -/
def State.enter (s : State) (new : DrivingState) : State := { s with S := new, D := 0 }

/-- The state machine's stay: nothing is written (43_state_machine.md R162). -/
def State.stay (s : State) : State := s

/-- `v <- w` (44_scaling.md R205). -/
def State.passWidth (s : State) : State := { s with v := s.w }

/-- `v <- scale(w, num, den)` (44_scaling.md R206). -/
def State.scaleWidth (s : State) (num den : Int) : State := { s with v := scale s.w num den }

/-- `B <- satdec(B)` (44_scaling.md R193). -/
def State.burstDown (s : State) : State := { s with B := satdecSigned s.B }

/-- `B <- binc(B)` (44_scaling.md R192). -/
def State.burstUp (s : State) (p : Params) : State := { s with B := binc p s.B }

/-- `IND <- value`, the "Output `IND`" of a policy operation (44_scaling.md R194 to R201; log 10). -/
def State.indicate (s : State) (i : Indicator) : State := { s with IND := i }

/-- The rear-light value: "1 if `S'` is `Braking` or `Reverse`, else 0" (44_scaling.md R210). -/
def rearLight : DrivingState → Level
  | .braking => true
  | .reverse => true
  | .centering => false
  | .idle => false
  | .forward => false
  | .stopped => false

/-- `REAR <- rear-light value` (45_loop.md R223). -/
def State.presentRear (s : State) : State := { s with REAR := rearLight s.S }

/-- `PHASE <- p` (00_scope.md R16). -/
def State.goto (s : State) (ph : Phase) : State := { s with PHASE := ph }

/-- `PinWrite(ppm_out, level)` (00_scope.md R15). -/
def State.pinWrite (s : State) (level : Level) : State := { s with ppmOut := level }

/-- `RAWQ <- raw`, with `raw_strobe` raised (40_capture.md R107). -/
def State.presentRaw (s : State) (raw : Nat) : State := { s with RAWQ := raw, rawStrobe := true }

/-- Sets the transient `w` of this iteration (10_state.md R25; log 5). -/
def State.latchWidth (s : State) (w : Int) : State := { s with w := w }

/-- `D <- satinc(D, DUR_MAX)`, the end of the loop body (45_loop.md R225). -/
def State.countDuration (s : State) (p : Params) : State := { s with D := satinc s.D p.durMax }

/-- Discards the transients at the end of `LOOP.COMPUTE` (10_state.md R25; log 5). -/
def State.discardTransients (s : State) : State := { s with w := 0, v := 0 }

/-- `EmitStart(out)` (41_emission.md R122). -/
def emitStart (p : Params) (out : Int) (s : State) : Result :=
  if out < 0 then raise (.emitRange out)
  else .next ((({ s with ECNT := emitCount p out } : State).pinWrite true).goto .emit)

/-- The state after reset, in the middle of a run: every register and output at the value of 10_state.md R38, the
environment's own fields as they were (70_reset_and_hazards.md R270). -/
def State.resetRegisters (s : State) : State :=
  { State.reset with stimulus := s.stimulus, tick := s.tick, clk := s.clk }

/-- `raw_strobe` has fallen by the end of a step of this many clock cycles: it is high "for one clock cycle" (40_capture.md R107),
so only a step without a cycle leaves it high (log 9). -/
def State.lowerStrobe (s : State) (cycles : Nat) : State :=
  { s with rawStrobe := s.rawStrobe && decide (cycles = 0) }

/-- The environment's move at the end of a step: the inputs of this step are past (log 2) and `cycles` clock edges have gone
by (log 14). -/
def State.advance (s : State) (cycles : Nat) : State :=
  { s with stimulus := s.stimulus.tail, tick := s.tick + 1, clk := s.clk + cycles }

/-- The clock cycles a sequencer step lasts: a capture quantum (40_capture.md R101), an emission quantum (41_emission.md R123,
R124) or `T_PROC` (45_loop.md R226). DESIGN CHOICE (log 17): `T_PROC` is the length of `LOOP.COMPUTE` alone and counts from the end of
the quantum of `CAP.MEAS.END`, so the rising edge of `ppm_out` is `CAP_CPL + T_PROC` after the low sample that ends capture. -/
def phaseCycles (p : Params) : Phase → Nat
  | .align => p.capCpl
  | .arm => p.capCpl
  | .measure => p.capCpl
  | .compute => p.tProc
  | .emit => p.emitCpl

/-- The end of a sequencer step around the outcome of its operation: a next state advances, a fault stays (log 14). -/
def closeStep (cycles : Nat) : Result → Result
  | .next s => .next (s.advance cycles)
  | .fault f => .fault f
  | .refused r => .refused r

end Sys2Proof.Machine
end

