-- ==== Sys2Proof/Machine/Operands.lean ====
section
/-! DEFINITION. Where the operands of the operations come from: the sample of `ppm_in`, the corrected width, and the fields of
the four decision words, "every field computed from state and from this iteration's `w`" (30_encoding.md R79). -/

namespace Sys2Proof.Machine

/-- The inputs of this step: what the environment has lined up, or else the free ones (log 2). -/
def State.pins (s : State) : Pins :=
  match s.stimulus with
  | [] => ⟨Config.rstEdge s.tick, Config.ppmInLevel s.tick⟩
  | p :: _ => p

/-- `PinRead(ppm_in)`, the sample of this step (00_scope.md R15, 20_memory.md R56). -/
def State.pinRead (s : State) : Level := s.pins.ppmIn

/-- The clock edge of this step at which reset takes effect: `rst` is "sampled on the rising edge of `clk`", at any edge from the one
that begins the step to the one at which the step would make its writes (70_reset_and_hazards.md R270; logs 3,
19). -/
def State.resetEdge (s : State) : Option Nat :=
  match s.pins.rst with
  | none => none
  | some k => if k ≤ phaseCycles Config.params s.PHASE then some k else none

/-- Whether `rst` is high at an edge of this step. -/
def State.rstAsserted (s : State) : Level := s.resetEdge.isSome

/-- The corrected width: "`S` and `OFF` are the values at the start of the iteration" (42_calibration.md R140). `raw` is read
from `RAWQ`, which `CAP.MEAS.END` wrote with it (log 4). -/
def State.correctedWidth (s : State) : Int :=
  if s.S = .centering then (s.RAWQ : Int) - Config.CENTER else (s.RAWQ : Int) - Config.CENTER - s.OFF

/-- The bit `X` of the `PH` word: the sample in the capture phases, `LAST` in `EMIT`, 0 in `COMPUTE` (30_encoding.md R75). -/
def State.phX (s : State) : Bool :=
  match s.PHASE with
  | .align => s.pinRead
  | .arm => s.pinRead
  | .measure => s.pinRead
  | .compute => false
  | .emit => lastQuantum s.ECNT

/-- The `PH` word of this step (30_encoding.md R75). -/
def State.phWord (s : State) : PhWord := ⟨s.PHASE.code, s.phX⟩

/-- The `CAL` word of this iteration (30_encoding.md R76). -/
def State.calWord (s : State) : CalWord := ⟨plausible s.w, geEnd s.D, geStart s.D⟩

/-- The `DSM` word of this iteration (30_encoding.md R77). -/
def State.dsmWord (s : State) : DsmWord := ⟨s.S.code, (widthClass s.w).code, dwell s.D⟩

/-- The `POL` word of this iteration, on the new state and the old `B`, which no operation before it writes
(30_encoding.md R78, 44_scaling.md R190). -/
def State.polWord (s : State) (p : Params) : PolWord := ⟨s.S.code, full p s.w, avail p s.B⟩

/-- The operation the sequencer selects for this step (30_encoding.md R75, R80). -/
def State.fetch (s : State) : Except Fault Instr :=
  match decodePh s.phWord with
  | some i => .ok i
  | none => .error (.illegalCode .ph s.phWord.toNat)

/-- The calibration or state-machine operation of this iteration (45_loop.md R223, second line). -/
def State.fetchClassify (s : State) : Except Fault Instr :=
  if s.S = .centering then .ok (decodeCal s.calWord)
  else match decodeDsm s.dsmWord with
    | some i => .ok i
    | none => .error (.illegalCode .dsm s.dsmWord.toNat)

/-- The policy operation of this iteration (45_loop.md R223, fourth line). -/
def State.fetchPolicy (s : State) (p : Params) : Except Fault Instr :=
  match decodePol (s.polWord p) with
  | some i => .ok i
  | none => .error (.illegalCode .pol (s.polWord p).toNat)

end Sys2Proof.Machine
end

