-- ==== Sys2Proof/Machine/Calibration.lean ====
section
/-! DEFINITION. The Calibration Stage, the four operations of format `CAL` (42_calibration.md). Each is an effect on the state, which
`LOOP.COMPUTE` runs, and the meaning that answers it. -/

namespace Sys2Proof.Machine

/-- The effect of `CAL.HOLD`: "`D <- satdec(D)`" (42_calibration.md R144). -/
def calHold (s : State) : State := { s with D := satdec s.D }

/-- `CAL.HOLD`: nothing is accumulated and the state does not change (42_calibration.md R144). -/
def execCalHold (s : State) : Result := .next (calHold s)

/-- The effect of `CAL.SETTLE`: "nothing. Writes no register" (42_calibration.md R145). -/
def calSettle (s : State) : State := s

/-- `CAL.SETTLE`: the first ten plausible samples are only counted (42_calibration.md R145). -/
def execCalSettle (s : State) : Result := .next (calSettle s)

/-- The effect of `CAL.ACC`: "`OFF <- OFF + w`" (42_calibration.md R146). -/
def calAcc (s : State) : State := { s with OFF := s.OFF + s.w }

/-- `CAL.ACC`: signed addition, whatever the sign of the deviation (42_calibration.md R146; 90 C2). -/
def execCalAcc (s : State) : Result := .next (calAcc s)

/-- The effect of `CAL.DONE`: "`OFF <- quot(OFF, 10); S <- Idle; D <- 0`" (42_calibration.md R147). -/
def calDone (s : State) : State := ({ s with OFF := quot s.OFF Config.CAL_DIV } : State).enter .idle

/-- `CAL.DONE`: the sample that triggers it is not accumulated (42_calibration.md R147). -/
def execCalDone (s : State) : Result := .next (calDone s)

end Sys2Proof.Machine
end

