-- ==== Sys2Proof/Machine/Capture.lean ====
section
/-! DEFINITION. Pulse Capture, the six capture operations of format `PH` (40_capture.md). The sample that selects an operation is the `X` bit of
its word, so an operation reads no sample of its own. -/

namespace Sys2Proof.Machine

/-- `CAP.ALIGN.WAIT`: "`PHASE <- ALIGN` (no change). Writes nothing else" (40_capture.md R102). -/
def execCapAlignWait (s : State) : Result := .next (s.goto .align)

/-- `CAP.ALIGN.EXIT`: "`PHASE <- ARM`" (40_capture.md R103). -/
def execCapAlignExit (s : State) : Result := .next (s.goto .arm)

/-- `CAP.ARM.WAIT`: "`PHASE <- ARM` (no change)" (40_capture.md R104). -/
def execCapArmWait (s : State) : Result := .next (s.goto .arm)

/-- `CAP.ARM.START`: "`NCNT <- 1; PHASE <- MEASURE`" (40_capture.md R105). -/
def execCapArmStart (s : State) : Result := .next (({ s with NCNT := 1 } : State).goto .measure)

/-- `CAP.MEAS.COUNT`: "`NCNT <- NCNT + 1`" (40_capture.md R106). -/
def execCapMeasCount (s : State) : Result := .next { s with NCNT := s.NCNT + 1 }

/-- The effect of `CAP.MEAS.END` under a parameter set (40_capture.md R107, R109). -/
def measureEnd (p : Params) (s : State) : Result :=
  if p.rawMax < conv p s.NCNT then raise (.captureRange s.NCNT)
  else .next ((s.presentRaw (conv p s.NCNT)).goto .compute)

/-- `CAP.MEAS.END`: "`raw <- conv(NCNT); if raw > RAW_MAX then raise CaptureRange(NCNT); RAWQ <- raw; pulse raw_strobe;
PHASE <- COMPUTE`" (40_capture.md R107). -/
def execCapMeasEnd (s : State) : Result := measureEnd Config.params s

end Sys2Proof.Machine
end

