-- ==== Sys2Proof/Machine/Driving.lean ====
section
/-! DEFINITION. The Driving State Machine, the eighteen operations of format `DSM` (43_state_machine.md): ten transitions, which enter
a state and restart the duration, and eight stays, which write nothing (R162). -/

namespace Sys2Proof.Machine

/-- The effect of `DSM.IDLE_REV`: "`S <- Reverse; D <- 0`" (43_state_machine.md R164). -/
def dsmIdleRev (s : State) : State := s.enter .reverse

/-- `DSM.IDLE_REV` (43_state_machine.md R164). -/
def execDsmIdleRev (s : State) : Result := .next (dsmIdleRev s)

/-- The effect of `DSM.IDLE_FWD`: "`S <- Forward; D <- 0`" (43_state_machine.md R165). -/
def dsmIdleFwd (s : State) : State := s.enter .forward

/-- `DSM.IDLE_FWD` (43_state_machine.md R165). -/
def execDsmIdleFwd (s : State) : Result := .next (dsmIdleFwd s)

/-- The effect of `DSM.IDLE_STAY`: "nothing" (43_state_machine.md R166). -/
def dsmIdleStay (s : State) : State := s.stay

/-- `DSM.IDLE_STAY` (43_state_machine.md R166). -/
def execDsmIdleStay (s : State) : Result := .next (dsmIdleStay s)

/-- The effect of `DSM.REV_FWD`: "`S <- Forward; D <- 0`" (43_state_machine.md R167). -/
def dsmRevFwd (s : State) : State := s.enter .forward

/-- `DSM.REV_FWD` (43_state_machine.md R167). -/
def execDsmRevFwd (s : State) : Result := .next (dsmRevFwd s)

/-- The effect of `DSM.REV_IDLE`: "`S <- Idle; D <- 0`" (43_state_machine.md R168). -/
def dsmRevIdle (s : State) : State := s.enter .idle

/-- `DSM.REV_IDLE` (43_state_machine.md R168). -/
def execDsmRevIdle (s : State) : Result := .next (dsmRevIdle s)

/-- The effect of `DSM.REV_KEEP`: "nothing" (43_state_machine.md R169). -/
def dsmRevKeep (s : State) : State := s.stay

/-- `DSM.REV_KEEP` (43_state_machine.md R169). -/
def execDsmRevKeep (s : State) : Result := .next (dsmRevKeep s)

/-- The effect of `DSM.REV_WAIT`: "nothing" (43_state_machine.md R170). -/
def dsmRevWait (s : State) : State := s.stay

/-- `DSM.REV_WAIT` (43_state_machine.md R170). -/
def execDsmRevWait (s : State) : Result := .next (dsmRevWait s)

/-- The effect of `DSM.FWD_BRK`: "`S <- Braking; D <- 0`" (43_state_machine.md R171). -/
def dsmFwdBrk (s : State) : State := s.enter .braking

/-- `DSM.FWD_BRK` (43_state_machine.md R171). -/
def execDsmFwdBrk (s : State) : Result := .next (dsmFwdBrk s)

/-- The effect of `DSM.FWD_STOP`: "`S <- Stopped; D <- 0`" (43_state_machine.md R172). -/
def dsmFwdStop (s : State) : State := s.enter .stopped

/-- `DSM.FWD_STOP` (43_state_machine.md R172). -/
def execDsmFwdStop (s : State) : Result := .next (dsmFwdStop s)

/-- The effect of `DSM.FWD_KEEP`: "nothing" (43_state_machine.md R173). -/
def dsmFwdKeep (s : State) : State := s.stay

/-- `DSM.FWD_KEEP` (43_state_machine.md R173). -/
def execDsmFwdKeep (s : State) : Result := .next (dsmFwdKeep s)

/-- The effect of `DSM.FWD_WAIT`: "nothing" (43_state_machine.md R174). -/
def dsmFwdWait (s : State) : State := s.stay

/-- `DSM.FWD_WAIT` (43_state_machine.md R174). -/
def execDsmFwdWait (s : State) : Result := .next (dsmFwdWait s)

/-- The effect of `DSM.STOP_FWD`: "`S <- Forward; D <- 0`" (43_state_machine.md R175). -/
def dsmStopFwd (s : State) : State := s.enter .forward

/-- `DSM.STOP_FWD` (43_state_machine.md R175). -/
def execDsmStopFwd (s : State) : Result := .next (dsmStopFwd s)

/-- The effect of `DSM.STOP_BRK`: "`S <- Braking; D <- 0`" (43_state_machine.md R176). -/
def dsmStopBrk (s : State) : State := s.enter .braking

/-- `DSM.STOP_BRK` (43_state_machine.md R176). -/
def execDsmStopBrk (s : State) : Result := .next (dsmStopBrk s)

/-- The effect of `DSM.STOP_STAY`: "nothing" (43_state_machine.md R177). -/
def dsmStopStay (s : State) : State := s.stay

/-- `DSM.STOP_STAY` (43_state_machine.md R177). -/
def execDsmStopStay (s : State) : Result := .next (dsmStopStay s)

/-- The effect of `DSM.BRK_FWD`: "`S <- Forward; D <- 0`" (43_state_machine.md R178). -/
def dsmBrkFwd (s : State) : State := s.enter .forward

/-- `DSM.BRK_FWD` (43_state_machine.md R178). -/
def execDsmBrkFwd (s : State) : Result := .next (dsmBrkFwd s)

/-- The effect of `DSM.BRK_IDLE`: "`S <- Idle; D <- 0`" (43_state_machine.md R179). -/
def dsmBrkIdle (s : State) : State := s.enter .idle

/-- `DSM.BRK_IDLE` (43_state_machine.md R179). -/
def execDsmBrkIdle (s : State) : Result := .next (dsmBrkIdle s)

/-- The effect of `DSM.BRK_KEEP`: "nothing" (43_state_machine.md R180). -/
def dsmBrkKeep (s : State) : State := s.stay

/-- `DSM.BRK_KEEP` (43_state_machine.md R180). -/
def execDsmBrkKeep (s : State) : Result := .next (dsmBrkKeep s)

/-- The effect of `DSM.BRK_WAIT`: "nothing" (43_state_machine.md R181). -/
def dsmBrkWait (s : State) : State := s.stay

/-- `DSM.BRK_WAIT` (43_state_machine.md R181). -/
def execDsmBrkWait (s : State) : Result := .next (dsmBrkWait s)

end Sys2Proof.Machine
end

