-- ==== Sys2Proof/Machine/Emission.lean ====
section
/-! DEFINITION. Pulse Emission, the two emission operations of format `PH` (41_emission.md). `EmitStart` has no decision word of its own
(R122) and stands in Ops.lean. -/

namespace Sys2Proof.Machine

/-- `EMIT.HOLD`: "`ECNT <- ECNT - 1`", with `ppm_out` high throughout (41_emission.md R123). -/
def execEmitHold (s : State) : Result := .next { s with ECNT := s.ECNT - 1 }

/-- The effect of `EMIT.END` under a parameter set (41_emission.md R124). -/
def emissionEnd (p : Params) (s : State) : State :=
  ((({ s with ECNT := 0 } : State).pinWrite false).countDuration p).goto .align

/-- `EMIT.END`: "`ECNT <- 0; PinWrite(ppm_out, 0); DUR.INC; PHASE <- ALIGN`" (41_emission.md R124). -/
def execEmitEnd (s : State) : Result := .next (emissionEnd Config.params s)

end Sys2Proof.Machine
end

