-- ==== Sys2Proof/Machine/Scaling.lean ====
section
/-! DEFINITION. The Scaling Policy, the eight operations of format `POL` (44_scaling.md). Each computes `v` from `w`, moves the burst counter
and gives the indicator its value; the effects that read a parameter take the parameter set. -/

namespace Sys2Proof.Machine

/-- The effect of `POL.SYNC`: `v <- w` (`B` unchanged); output `IND = SYNCING` (44_scaling.md R194). -/
def polSync (s : State) : State := s.passWidth.indicate .syncing

/-- `POL.SYNC` (44_scaling.md R194). -/
def execPolSync (s : State) : Result := .next (polSync s)

/-- The effect of `POL.PASS.IDLE`: `v <- w; B <- satdec(B)`; output `IND = OFF` (44_scaling.md R195). -/
def polPassIdle (s : State) : State := s.passWidth.burstDown.indicate .off

/-- `POL.PASS.IDLE` (44_scaling.md R195). -/
def execPolPassIdle (s : State) : Result := .next (polPassIdle s)

/-- The effect of `POL.PASS.STOP`: `v <- w; B <- satdec(B)`; output `IND = OFF` (44_scaling.md R196). -/
def polPassStop (s : State) : State := s.passWidth.burstDown.indicate .off

/-- `POL.PASS.STOP` (44_scaling.md R196). -/
def execPolPassStop (s : State) : Result := .next (polPassStop s)

/-- The effect of `POL.PASS.BRK`: `v <- w; B <- satdec(B)`; output `IND = OFF` (44_scaling.md R197). -/
def polPassBrk (s : State) : State := s.passWidth.burstDown.indicate .off

/-- `POL.PASS.BRK` (44_scaling.md R197). -/
def execPolPassBrk (s : State) : Result := .next (polPassBrk s)

/-- The effect of `POL.REV`: `v <- scale(w, REV_NUM, REV_DEN); B <- satdec(B)`; output `IND = LIMITED` (44_scaling.md R198). -/
def polRev (p : Params) (s : State) : State := (s.scaleWidth p.revNum p.revDen).burstDown.indicate .limited

/-- `POL.REV` (44_scaling.md R198). -/
def execPolRev (s : State) : Result := .next (polRev Config.params s)

/-- The effect of `POL.FWD_BURST`: `v <- w; B <- binc(B)`; output `IND = OFF` (44_scaling.md R199). -/
def polFwdBurst (p : Params) (s : State) : State := (s.passWidth.burstUp p).indicate .off

/-- `POL.FWD_BURST` (44_scaling.md R199). -/
def execPolFwdBurst (s : State) : Result := .next (polFwdBurst Config.params s)

/-- The effect of `POL.FWD_CAP`: `v <- scale(w, 2, 5); B <- binc(B)`; output `IND = LIMITED` (44_scaling.md R200). -/
def polFwdCap (p : Params) (s : State) : State := ((s.scaleWidth Config.FWD_NUM Config.FWD_DEN).burstUp p).indicate .limited

/-- `POL.FWD_CAP` (44_scaling.md R200). -/
def execPolFwdCap (s : State) : Result := .next (polFwdCap Config.params s)

/-- The effect of `POL.FWD_LOCKOUT`: `v <- scale(w, 2, 5); B <- binc(B)`; output `IND = LIMITED` (44_scaling.md R201). -/
def polFwdLockout (p : Params) (s : State) : State := ((s.scaleWidth Config.FWD_NUM Config.FWD_DEN).burstUp p).indicate .limited

/-- `POL.FWD_LOCKOUT` (44_scaling.md R201). -/
def execPolFwdLockout (s : State) : Result := .next (polFwdLockout Config.params s)

end Sys2Proof.Machine
end

