-- ==== Sys2Proof/Machine/Loop.lean ====
section
/-! DEFINITION. The control loop: `LOOP.COMPUTE`, which decodes and runs one calibration or state-machine operation and one policy operation
(45_loop.md R223), and `DUR.INC` (R225). -/

namespace Sys2Proof.Machine

/-- The effect of a calibration or state-machine operation; `none` for an operation of another format. -/
def classify (i : Instr) (s : State) : Option State :=
  match i with
  | .calHold => some (calHold s)
  | .calSettle => some (calSettle s)
  | .calAcc => some (calAcc s)
  | .calDone => some (calDone s)
  | .dsmIdleStay => some (dsmIdleStay s)
  | .dsmIdleFwd => some (dsmIdleFwd s)
  | .dsmIdleRev => some (dsmIdleRev s)
  | .dsmRevWait => some (dsmRevWait s)
  | .dsmRevIdle => some (dsmRevIdle s)
  | .dsmRevFwd => some (dsmRevFwd s)
  | .dsmRevKeep => some (dsmRevKeep s)
  | .dsmFwdWait => some (dsmFwdWait s)
  | .dsmFwdStop => some (dsmFwdStop s)
  | .dsmFwdKeep => some (dsmFwdKeep s)
  | .dsmFwdBrk => some (dsmFwdBrk s)
  | .dsmStopStay => some (dsmStopStay s)
  | .dsmStopFwd => some (dsmStopFwd s)
  | .dsmStopBrk => some (dsmStopBrk s)
  | .dsmBrkWait => some (dsmBrkWait s)
  | .dsmBrkIdle => some (dsmBrkIdle s)
  | .dsmBrkFwd => some (dsmBrkFwd s)
  | .dsmBrkKeep => some (dsmBrkKeep s)
  | .capAlignExit | .capAlignWait | .capArmWait | .capArmStart | .capMeasEnd | .capMeasCount | .loopCompute
  | .emitHold | .emitEnd | .polSync | .polPassIdle | .polRev | .polFwdCap | .polFwdLockout | .polFwdBurst
  | .polPassStop | .polPassBrk | .durInc => none

/-- The effect of a policy operation; `none` for an operation of another format. -/
def policy (p : Params) (i : Instr) (s : State) : Option State :=
  match i with
  | .polSync => some (polSync s)
  | .polPassIdle => some (polPassIdle s)
  | .polRev => some (polRev p s)
  | .polFwdCap => some (polFwdCap p s)
  | .polFwdLockout => some (polFwdLockout p s)
  | .polFwdBurst => some (polFwdBurst p s)
  | .polPassStop => some (polPassStop s)
  | .polPassBrk => some (polPassBrk s)
  | .capAlignExit | .capAlignWait | .capArmWait | .capArmStart | .capMeasEnd | .capMeasCount | .loopCompute
  | .emitHold | .emitEnd | .calHold | .calSettle | .calAcc | .calDone | .dsmIdleStay | .dsmIdleFwd | .dsmIdleRev
  | .dsmRevWait | .dsmRevIdle | .dsmRevFwd | .dsmRevKeep | .dsmFwdWait | .dsmFwdStop | .dsmFwdKeep | .dsmFwdBrk
  | .dsmStopStay | .dsmStopFwd | .dsmStopBrk | .dsmBrkWait | .dsmBrkIdle | .dsmBrkFwd | .dsmBrkKeep | .durInc => none

/-- The second line of `LOOP.COMPUTE`: "decode `CAL`; run it, else decode `DSM`; run it" (45_loop.md R223). -/
def runClassify (s : State) : Except Fault State :=
  match s.fetchClassify with
  | .error f => .error f
  | .ok i =>
    match classify i s with
    | some t => .ok t
    | none => .error (.illegalCode i.format (encode i))

/-- The fourth line of `LOOP.COMPUTE`: "decode `POL`; run it: gives `v`, writes `B`" (45_loop.md R223). -/
def runPolicy (p : Params) (s : State) : Except Fault State :=
  match s.fetchPolicy p with
  | .error f => .error f
  | .ok i =>
    match policy p i s with
    | some t => .ok t
    | none => .error (.illegalCode i.format (encode i))

/-- `out <- v + 1500` (44_scaling.md R207). -/
def State.outWidth (s : State) : Int := s.v + Config.CENTER

/-- The lines of `LOOP.COMPUTE` up to `EmitStart`, "each line seeing the writes of the lines before it" (45_loop.md R223). -/
def computeOutputs (p : Params) (s : State) : Except Fault State :=
  match runClassify (s.latchWidth s.correctedWidth) with
  | .error f => .error f
  | .ok classified =>
    match runPolicy p classified with
    | .error f => .error f
    | .ok scaled => .ok scaled.presentRear

/-- The effect of `LOOP.COMPUTE` under a parameter set (45_loop.md R223). -/
def loopCompute (p : Params) (s : State) : Result :=
  match computeOutputs p s with
  | .error f => raise f
  | .ok t => emitStart p t.outWidth t.discardTransients

/-- `LOOP.COMPUTE` (45_loop.md R223). On a fault none of its writes is part of the outcome (60_exceptions.md R249). -/
def execLoopCompute (s : State) : Result := loopCompute Config.params s

/-- `DUR.INC`: "`D <- satinc(D, DUR_MAX)`" (45_loop.md R225). -/
def execDurInc (s : State) : Result := .next (s.countDuration Config.params)

end Sys2Proof.Machine
end

