-- ==== Sys2Proof/Machine/Arrange.lean ====
section
/-! DEFINITION. Arranging a state so that the very next step runs a given operation (log 8). The hardware fetches no instruction
(30_encoding.md R70): what selects an operation is the phase, the sample, the emission count, and, inside `LOOP.COMPUTE`, the
state, the duration and the width. -/

namespace Sys2Proof.Machine

/-- Puts the inputs of one step in front of the environment's list: reset released, `ppm_in` at `level`. -/
def State.offer (s : State) (level : Level) : State := { s with stimulus := ⟨none, level⟩ :: s.stimulus }

/-- A state about to run `LOOP.COMPUTE` with these registers, a zero offset and a raw width of `1500 + w`. -/
def State.aboutToCompute (s : State) (state : DrivingState) (D : Nat) (w : Int) : State :=
  ({ s with PHASE := .compute, S := state, D := D, OFF := 0, RAWQ := (Config.CENTER + w).toNat } : State).offer false

/-- The state in which the very next step runs the operation: as the step's own operation for format `PH`, inside
`LOOP.COMPUTE` for formats `CAL`, `DSM` and `POL`, inside `EMIT.END` for `DUR.INC` (log 8). -/
def State.arrange (s : State) : Instr → State
  | .capAlignExit => (s.goto .align).offer false
  | .capAlignWait => (s.goto .align).offer true
  | .capArmWait => (s.goto .arm).offer false
  | .capArmStart => (s.goto .arm).offer true
  | .capMeasEnd => (s.goto .measure).offer false
  | .capMeasCount => (s.goto .measure).offer true
  | .loopCompute => (s.goto .compute).offer false
  | .emitHold => (({ s with ECNT := 2 } : State).goto .emit).offer false
  | .emitEnd => (({ s with ECNT := 1 } : State).goto .emit).offer false
  | .durInc => (({ s with ECNT := 1 } : State).goto .emit).offer false
  | .calHold => s.aboutToCompute .centering 0 1501
  | .calSettle => s.aboutToCompute .centering 0 0
  | .calAcc => s.aboutToCompute .centering 10 0
  | .calDone => s.aboutToCompute .centering 20 0
  | .dsmIdleStay => s.aboutToCompute .idle 0 0
  | .dsmIdleFwd => s.aboutToCompute .idle 0 40
  | .dsmIdleRev => s.aboutToCompute .idle 0 (-40)
  | .dsmRevWait => s.aboutToCompute .reverse 0 0
  | .dsmRevIdle => s.aboutToCompute .reverse 4 0
  | .dsmRevFwd => s.aboutToCompute .reverse 0 40
  | .dsmRevKeep => s.aboutToCompute .reverse 0 (-40)
  | .dsmFwdWait => s.aboutToCompute .forward 0 0
  | .dsmFwdStop => s.aboutToCompute .forward 4 0
  | .dsmFwdKeep => s.aboutToCompute .forward 0 40
  | .dsmFwdBrk => s.aboutToCompute .forward 0 (-40)
  | .dsmStopStay => s.aboutToCompute .stopped 0 0
  | .dsmStopFwd => s.aboutToCompute .stopped 0 40
  | .dsmStopBrk => s.aboutToCompute .stopped 0 (-40)
  | .dsmBrkWait => s.aboutToCompute .braking 0 0
  | .dsmBrkIdle => s.aboutToCompute .braking 4 0
  | .dsmBrkFwd => s.aboutToCompute .braking 0 40
  | .dsmBrkKeep => s.aboutToCompute .braking 0 (-40)
  | .polSync => s.aboutToCompute .centering 0 0
  | .polPassIdle => s.aboutToCompute .idle 0 0
  | .polRev => s.aboutToCompute .reverse 0 (-40)
  | .polFwdCap => s.aboutToCompute .forward 0 (-39)
  | .polFwdLockout =>
    { s.aboutToCompute .forward 0 (max 40 Config.params.fwdFull) with B := Config.burstLock Config.params }
  | .polFwdBurst => { s.aboutToCompute .forward 0 (max 40 Config.params.fwdFull) with B := 0 }
  | .polPassStop => s.aboutToCompute .stopped 0 0
  | .polPassBrk => s.aboutToCompute .braking 0 (-40)

end Sys2Proof.Machine
end

