-- ==== Sys2Proof/Machine/Dispatch.lean ====
section
/-! DEFINITION. The meaning of every operation: one arm per constructor of `Instr`, one direct call of a meaning each. -/

namespace Sys2Proof.Machine

def exec (i : Instr) (s : State) : Host.Outcome State Fault Refusal :=
  match i with
  | .capAlignExit => Sys2Proof.Machine.execCapAlignExit s
  | .capAlignWait => Sys2Proof.Machine.execCapAlignWait s
  | .capArmWait => Sys2Proof.Machine.execCapArmWait s
  | .capArmStart => Sys2Proof.Machine.execCapArmStart s
  | .capMeasEnd => Sys2Proof.Machine.execCapMeasEnd s
  | .capMeasCount => Sys2Proof.Machine.execCapMeasCount s
  | .loopCompute => Sys2Proof.Machine.execLoopCompute s
  | .emitHold => Sys2Proof.Machine.execEmitHold s
  | .emitEnd => Sys2Proof.Machine.execEmitEnd s
  | .calHold => Sys2Proof.Machine.execCalHold s
  | .calSettle => Sys2Proof.Machine.execCalSettle s
  | .calAcc => Sys2Proof.Machine.execCalAcc s
  | .calDone => Sys2Proof.Machine.execCalDone s
  | .dsmIdleStay => Sys2Proof.Machine.execDsmIdleStay s
  | .dsmIdleFwd => Sys2Proof.Machine.execDsmIdleFwd s
  | .dsmIdleRev => Sys2Proof.Machine.execDsmIdleRev s
  | .dsmRevWait => Sys2Proof.Machine.execDsmRevWait s
  | .dsmRevIdle => Sys2Proof.Machine.execDsmRevIdle s
  | .dsmRevFwd => Sys2Proof.Machine.execDsmRevFwd s
  | .dsmRevKeep => Sys2Proof.Machine.execDsmRevKeep s
  | .dsmFwdWait => Sys2Proof.Machine.execDsmFwdWait s
  | .dsmFwdStop => Sys2Proof.Machine.execDsmFwdStop s
  | .dsmFwdKeep => Sys2Proof.Machine.execDsmFwdKeep s
  | .dsmFwdBrk => Sys2Proof.Machine.execDsmFwdBrk s
  | .dsmStopStay => Sys2Proof.Machine.execDsmStopStay s
  | .dsmStopFwd => Sys2Proof.Machine.execDsmStopFwd s
  | .dsmStopBrk => Sys2Proof.Machine.execDsmStopBrk s
  | .dsmBrkWait => Sys2Proof.Machine.execDsmBrkWait s
  | .dsmBrkIdle => Sys2Proof.Machine.execDsmBrkIdle s
  | .dsmBrkFwd => Sys2Proof.Machine.execDsmBrkFwd s
  | .dsmBrkKeep => Sys2Proof.Machine.execDsmBrkKeep s
  | .polSync => Sys2Proof.Machine.execPolSync s
  | .polPassIdle => Sys2Proof.Machine.execPolPassIdle s
  | .polRev => Sys2Proof.Machine.execPolRev s
  | .polFwdCap => Sys2Proof.Machine.execPolFwdCap s
  | .polFwdLockout => Sys2Proof.Machine.execPolFwdLockout s
  | .polFwdBurst => Sys2Proof.Machine.execPolFwdBurst s
  | .polPassStop => Sys2Proof.Machine.execPolPassStop s
  | .polPassBrk => Sys2Proof.Machine.execPolPassBrk s
  | .durInc => Sys2Proof.Machine.execDurInc s

end Sys2Proof.Machine
end

