-- ==== Sys2Proof/Machine/Step.lean ====
section
/-! DEFINITION. One step of the sequencer: the reset state where `rst` is high at an edge of the step (70_reset_and_hazards.md R270),
else the operation its `PH` word selects (30_encoding.md R75: "decoded once per sequencer step"), then the environment's move. -/

namespace Sys2Proof.Machine

/-- One step. A reset at edge `k` cuts the step short: its operation neither writes nor faults, and the reset values stand in the
clock cycle that follows the edge, so the next step begins at edge `k + 1` (logs 3, 19). Any other step lasts as its phase says (logs
14, 17). The strobe of an earlier step is over once a clock cycle has gone by (log 9). -/
def step (s : State) : Host.Outcome State Fault Refusal :=
  match s.resetEdge with
  | some k => closeStep (k + 1) (.next s.resetRegisters)
  | none =>
    match s.fetch with
    | .error f => raise f
    | .ok i => closeStep (phaseCycles Config.params s.PHASE) (exec i (s.lowerStrobe (phaseCycles Config.params s.PHASE)))

/-- The state in which the very next step runs the operation `decodeTableWord` reads from the word; unchanged where it reads
none (logs 7, 8). -/
def State.withFetchWord (s : State) (nbits w : Nat) : State :=
  match decodeTableWord nbits w with
  | some i => s.arrange i
  | none => s

end Sys2Proof.Machine
end

