-- ==== Sys2Proof/Machine/Iterate.lean ====
section
/-! DEFINITION. The iteration level: the function `Iterate` of 45_loop.md R224, written from that rule's own pseudocode and not
from the operations, so that "the two levels must agree" (00_scope.md R18) is a statement about two texts. With it the iteration
traces and stimulus programs of 30_encoding.md R90 to R92. -/

namespace Sys2Proof.Machine

/-- The record `(S, D, OFF, B)` (10_state.md R28). -/
structure Regs where
  S : DrivingState
  D : Nat
  OFF : Int
  B : Int
deriving DecidableEq, Repr

/-- The starting record `(Centering, 0, 0, 0)` (45_loop.md R224). -/
def Regs.reset : Regs := ⟨.centering, 0, 0, 0⟩

/-- The four architectural registers of a state. -/
def State.regs (s : State) : Regs := ⟨s.S, s.D, s.OFF, s.B⟩

/-- One line of an iteration trace (30_encoding.md R90): the widths, the two operations, the outputs, and the registers at the
end of the iteration. -/
structure Iteration where
  raw : Nat
  w : Int
  classOp : Instr
  polOp : Instr
  v : Int
  out : Int
  IND : Indicator
  REAR : Level
  regs : Regs
deriving DecidableEq, Repr

/-- The calibration lines of `Iterate`, with the operation each branch is (45_loop.md R224). -/
def iterateCalibration (r : Regs) (w : Int) : Regs × Instr :=
  if w < -1500 ∨ 1500 < w then ({ r with D := max (r.D - 1) 0 }, .calHold)
  else if 20 ≤ r.D then (⟨.idle, 0, quot r.OFF 10, r.B⟩, .calDone)
  else if 10 ≤ r.D then ({ r with OFF := r.OFF + w }, .calAcc)
  else (r, .calSettle)

/-- The state the state-machine lines of `Iterate` compute, with the operation each branch is (45_loop.md R224). -/
def iterateNext (S : DrivingState) (D : Nat) (w : Int) : DrivingState × Instr :=
  let neg := w ≤ -40
  let pos := 40 ≤ w
  let held := 4 ≤ D
  match S with
  | .idle =>
    if neg then (.reverse, .dsmIdleRev) else if pos then (.forward, .dsmIdleFwd) else (.idle, .dsmIdleStay)
  | .reverse =>
    if pos then (.forward, .dsmRevFwd) else if neg then (.reverse, .dsmRevKeep)
    else if held then (.idle, .dsmRevIdle) else (.reverse, .dsmRevWait)
  | .forward =>
    if neg then (.braking, .dsmFwdBrk) else if pos then (.forward, .dsmFwdKeep)
    else if held then (.stopped, .dsmFwdStop) else (.forward, .dsmFwdWait)
  | .stopped =>
    if pos then (.forward, .dsmStopFwd) else if neg then (.braking, .dsmStopBrk) else (.stopped, .dsmStopStay)
  | .braking =>
    if pos then (.forward, .dsmBrkFwd) else if neg then (.braking, .dsmBrkKeep)
    else if held then (.idle, .dsmBrkIdle) else (.braking, .dsmBrkWait)
  | .centering => (.centering, .calSettle)

/-- The state-machine lines of `Iterate`: "`if N /= S then S <- N; D <- 0`" (45_loop.md R224). -/
def iterateDriving (r : Regs) (w : Int) : Regs × Instr :=
  let next := iterateNext r.S r.D w
  if next.1 = r.S then (r, next.2) else ({ r with S := next.1, D := 0 }, next.2)

/-- The policy lines of `Iterate`, on the new state and the old `B`: the scaled width, the new `B`, the indicator and the
operation (45_loop.md R224). -/
def iteratePolicy (p : Params) (S : DrivingState) (B : Int) (w : Int) : Int × Int × Indicator × Instr :=
  match S with
  | .forward =>
    let locked := if (p.maxBurst : Int) ≤ B + 1 then 2 * (p.maxBurst : Int) else B + 1
    if p.fwdFull ≤ w ∧ B < p.maxBurst then (w, locked, .off, .polFwdBurst)
    else (quot (2 * w) 5, locked, .limited, if p.fwdFull ≤ w then .polFwdLockout else .polFwdCap)
  | .reverse => (quot (w * p.revNum) p.revDen, max (B - 1) 0, .limited, .polRev)
  | .centering => (w, B, .syncing, .polSync)
  | .idle => (w, max (B - 1) 0, .off, .polPassIdle)
  | .stopped => (w, max (B - 1) 0, .off, .polPassStop)
  | .braking => (w, max (B - 1) 0, .off, .polPassBrk)

/-- `Iterate(S, D, OFF, B, raw)`, the whole of one iteration (45_loop.md R224). A raw width above `RAW_MAX` is outside its domain
and is the fault `CaptureRange` (60_exceptions.md R241). -/
def iterate (p : Params) (r : Regs) (raw : Nat) : Except Fault Iteration :=
  if p.rawMax < raw then .error (.captureRange raw)
  else
    let w : Int := if r.S = .centering then raw - 1500 else raw - 1500 - r.OFF
    let driven := if r.S = .centering then iterateCalibration r w else iterateDriving r w
    let scaled := iteratePolicy p driven.1.S driven.1.B w
    let out := scaled.1 + 1500
    if out < 0 then .error (.emitRange out)
    else .ok
      { raw := raw, w := w, classOp := driven.2, polOp := scaled.2.2.2, v := scaled.1, out := out
        IND := scaled.2.2.1
        REAR := decide (driven.1.S = .braking ∨ driven.1.S = .reverse)
        regs := { driven.1 with B := scaled.2.1, D := min (driven.1.D + 1) p.durMax } }

/-- The registers with the duration left out, for comparing runs that differ in `DUR_MAX` (45_loop.md R225). -/
def Regs.withoutDuration (r : Regs) : Regs := { r with D := 0 }

/-- A trace line with the duration left out, for comparing runs that differ in `DUR_MAX` (45_loop.md R225). -/
def Iteration.withoutDuration (it : Iteration) : Iteration := { it with regs := it.regs.withoutDuration }

/-- A statement of a stimulus program at the iteration level (30_encoding.md R91). -/
inductive Stimulus where
  /-- `RESET`. -/
  | reset
  /-- `PULSE <µs>`. -/
  | pulse (raw : Nat)
deriving DecidableEq, Repr

/-- `PULSE <µs> x <count>` (30_encoding.md R91). -/
def pulses (raw count : Nat) : List Stimulus := List.replicate count (.pulse raw)

/-- `NEUTRAL x <count>` (30_encoding.md R92). -/
def neutral (count : Nat) : List Stimulus := pulses 1500 count

/-- `CALIBRATE` (30_encoding.md R92). -/
def calibrate : List Stimulus := .reset :: pulses 1500 21

/-- A stimulus program folded through `Iterate`: the trace of the iterations completed, and the registers at the end or the
fault that ended the run (45_loop.md R224, 60_exceptions.md R249). DESIGN CHOICE (log 20): a `RESET` in the middle of the program starts
again from the reset registers, and the lines after it follow those before it with no mark. -/
def runStimulus (p : Params) : Regs → List Stimulus → List Iteration × Except Fault Regs
  | r, [] => ([], .ok r)
  | _, .reset :: rest => runStimulus p Regs.reset rest
  | r, .pulse raw :: rest =>
    match iterate p r raw with
    | .error f => ([], .error f)
    | .ok it => (it :: (runStimulus p it.regs rest).1, (runStimulus p it.regs rest).2)

end Sys2Proof.Machine
end

