-- ==== Sys2Proof/Machine/Ports.lean ====
section
/-! DEFINITION. What an observer sees at the ports: the levels of a state, the boolean view of the indicator, and the level of every
output port at every clock cycle of a step (20_memory.md R51, 45_loop.md R228). The lamps behind the ports are out of scope
(00_scope.md R4). -/

namespace Sys2Proof.Machine

/-- The levels of the output ports (20_memory.md R51, R55). -/
structure PortLevels where
  ppmOut : Level
  ind : BitVec 2
  rearEn : Level
  rawUs : BitVec 16
  rawStrobe : Level
deriving DecidableEq, Repr

/-- The output ports of a state: `ind` carries the code of `IND`, `raw_us` the raw width "as an unsigned 16-bit number"
(20_memory.md R53). -/
def State.ports (s : State) : PortLevels :=
  { ppmOut := s.ppmOut
    ind := s.IND.code
    rearEn := s.REAR
    rawUs := BitVec.ofNat 16 s.RAWQ
    rawStrobe := s.rawStrobe }

/-- The boolean view of the indicator, `IND != OFF` (44_scaling.md R209). -/
def indicatorOn : Indicator → Bool
  | .off => false
  | .limited => true
  | .syncing => true

/-- The stimulus statement `LEVEL <level> x <count>`, with reset released (30_encoding.md R91). -/
def levels (level : Level) (count : Nat) : List Pins := List.replicate count ⟨none, level⟩

/-- The clock cycle of this `LOOP.COMPUTE` from which `ind` and `rear_en` show their new values: a free one, "before `ppm_out`
rises" (44_scaling.md R212), so the last at the latest (20_memory.md R60). DESIGN CHOICE (log 18). -/
def State.indicatorCycle (s : State) (p : Params) : Nat := min (Config.indicatorDelay s.tick) (p.tProc - 1)

/-- The state whose `IND` and `REAR` the ports show in clock cycle `k` of the step from `s`: inside `LOOP.COMPUTE`, from `indicatorCycle`
on, what it has computed; else `s` (20_memory.md R60, 45_loop.md R223). -/
def State.lights (s : State) (p : Params) (k : Nat) : State :=
  if s.PHASE = .compute ∧ s.indicatorCycle p ≤ k then
    match computeOutputs p s with
    | .ok t => t
    | .error _ => s
  else s

/-- The output ports in clock cycle `k` of the step from `s`, before the step ends. `ppm_out` and `raw_us` change at the end of a step
(41_emission.md R122 to R124, 20_memory.md R60); `ind` and `rear_en` inside `LOOP.COMPUTE`; `raw_strobe` is high in the first cycle
only (40_capture.md R107; log 9). -/
def portsInCycle (p : Params) (s : State) (k : Nat) : PortLevels :=
  { s.ports with
    ind := (s.lights p k).IND.code
    rearEn := (s.lights p k).REAR
    rawStrobe := s.rawStrobe && decide (k = 0) }

/-- The output ports at every clock cycle of the step from `s` (45_loop.md R228): the cycles of its phase, or, where `rst` is high at
edge `k`, the `k` cycles before that edge and one at the reset values (70_reset_and_hazards.md R270). -/
def stepCycles (s : State) : List PortLevels :=
  match s.resetEdge with
  | some k => (List.range k).map (portsInCycle Config.params s) ++ [State.reset.ports]
  | none => (List.range (phaseCycles Config.params s.PHASE)).map (portsInCycle Config.params s)

end Sys2Proof.Machine
end

