-- ==== Sys2Proof/Machine/Observe.lean ====
section
/-! DEFINITION. The trace of a run at the signal level: the output ports at every clock cycle and one line for every iteration
completed (45_loop.md R228), which with the fault is the outcome of a run that ends in one (60_exceptions.md R249). The lines are
read off the operations that run, not off `Iterate`, so that the two levels agree is a statement (00_scope.md R18). -/

namespace Sys2Proof.Machine

/-- The trace line of the iteration that a `LOOP.COMPUTE` of this state computes: the widths, the operations and the outputs
(30_encoding.md R90), with the registers as that operation leaves them; `none` where it meets a reserved code. -/
def computedLine (p : Params) (s : State) : Option Iteration :=
  let start := s.latchWidth s.correctedWidth
  match start.fetchClassify, runClassify start with
  | .ok classOp, .ok classified =>
    match classified.fetchPolicy p, runPolicy p classified with
    | .ok polOp, .ok scaled =>
      some { raw := s.RAWQ, w := start.w, classOp := classOp, polOp := polOp, v := scaled.v, out := scaled.outWidth
             IND := scaled.IND, REAR := scaled.presentRear.REAR, regs := scaled.regs }
    | _, _ => none
  | _, _ => none

/-- The iteration under way after the step from `s`: the one `LOOP.COMPUTE` has just computed, kept while its pulse is emitted.
A reset or a capture leaves none, so an iteration that a reset cuts short is never completed. -/
def underWay (pending : Option Iteration) (s : State) : Option Iteration :=
  if s.rstAsserted then none
  else match s.PHASE with
    | .align => none
    | .arm => none
    | .measure => none
    | .compute => computedLine Config.params s
    | .emit => pending

/-- The iteration that the step from `s` to `t` completes, if it does: `EMIT.END` is "the end of the iteration" (41_emission.md
R124), and the line shows the registers "at the end of the iteration, after `DUR.INC`" (30_encoding.md R90). -/
def completed (pending : Option Iteration) (s t : State) : List Iteration :=
  if s.rstAsserted = false ∧ s.PHASE = .emit ∧ t.PHASE = .align then
    match pending with
    | some line => [{ line with regs := t.regs }]
    | none => []
  else []

/-- What an observer has of a run: the ports at every clock cycle of the steps taken, the iterations completed, and the state
reached or the fault, with its code and its `info`, that ended the run (45_loop.md R228, 60_exceptions.md R249). -/
structure Observation where
  cycles : List PortLevels
  iterations : List Iteration
  outcome : Result
deriving Repr

/-- `k` steps, observed. A fault ends the run with the trace of what came before it: of the faulting step nothing is claimed, and
no step follows it (60_exceptions.md R249). `pending` is the iteration under way, `none` at the start of a run. DESIGN CHOICE (log
20): the trace goes on across a reset, the lines after it following those before it with no mark. -/
def observe : Nat → Option Iteration → State → Observation
  | 0, _, s => ⟨[], [], .next s⟩
  | k + 1, pending, s =>
    match step s with
    | .next t =>
      let rest := observe k (underWay pending s) t
      ⟨stepCycles s ++ rest.cycles, completed pending s t ++ rest.iterations, rest.outcome⟩
    | .fault f => ⟨[], [], .fault f⟩
    | .refused r => ⟨[], [], .refused r⟩

end Sys2Proof.Machine
end

