-- ==== Sys2Proof/Safety.lean ====
section
/-! DEFINITION. What the statements call a run, the invariant of the machine at every step boundary and that of the registers at every
iteration boundary: 10_state.md R26 with the bounds of 42_calibration.md R149, 44_scaling.md R202 and 70_reset_and_hazards.md R291. -/

namespace Sys2Proof.Machine

/-- `k` steps, stopping at the first fault. -/
def run (k : Nat) (s : State) : Result := Host.Core.run Sys2Proof.core k s

/-- The number of duration counts this iteration will end with: in `EMIT` the operations of the iteration have run and
`DUR.INC` has not (20_memory.md R59). -/
def State.countAtEnd (s : State) : Nat := if s.PHASE = .emit then s.D + 1 else s.D

/-- The invariant every step keeps. -/
structure State.Inv (s : State) : Prop where
  /-- `0 <= D <= DUR_MAX` (10_state.md R26). -/
  duration : s.D ≤ Config.params.durMax
  /-- `0 <= B <= 2 * MAXBURST` (10_state.md R26, 44_scaling.md R202). -/
  burst : 0 ≤ s.B ∧ s.B ≤ Config.burstLock Config.params
  /-- "`B = 0` throughout `Centering`" (92 D20, 70_reset_and_hazards.md R274). -/
  centeringBurst : s.S = .centering → s.B = 0
  /-- "In `Centering`, `D` never exceeds 20" (42_calibration.md R149). -/
  centeringDuration : s.S = .centering → s.countAtEnd ≤ 20
  /-- In `Centering`, `OFF` is a sum of one plausible deviation for each count from 10 on (42_calibration.md R148, R149). -/
  centeringSum : s.S = .centering → |s.OFF| ≤ 1500 * ((s.countAtEnd - 10 : Nat) : Int)
  /-- After `Centering`, `-1500 <= OFF <= 1500` (42_calibration.md R149). -/
  offset : s.S ≠ .centering → |s.OFF| ≤ 1500
  /-- `raw_us` is "never above `RAW_MAX`" (20_memory.md R53). -/
  rawWidth : s.RAWQ ≤ Config.params.rawMax
  /-- `NCNT` counts at least the sample that started the measurement (40_capture.md R105). -/
  captureCount : s.PHASE = .measure → 1 ≤ s.NCNT
  /-- "`EmitCount(out) >= 1`", and `EMIT.END` runs at 1 (41_emission.md R121, R124). -/
  emissionCount : s.PHASE = .emit → 1 ≤ s.ECNT
  /-- `ppm_out` is "high from the start of `EMIT` until `EMIT.END`, low at all other times" (10_state.md R34). -/
  output : s.ppmOut = true ↔ s.PHASE = .emit
  /-- `raw_strobe` is high only when `raw_us` has just been updated, before a clock cycle has gone by (20_memory.md R51, 40_capture.md
  R107): at the start of `COMPUTE`, and at the start of `EMIT` where `T_PROC` is 0 (log 9). -/
  strobe : s.rawStrobe = true → s.PHASE = .compute ∨ (s.PHASE = .emit ∧ Config.params.tProc = 0)
  /-- The rear light is enabled only in `Braking` and `Reverse` (44_scaling.md R210). -/
  rear : s.REAR = true ↔ (s.S = .braking ∨ s.S = .reverse)
  /-- The transients are discarded (10_state.md R25), which the model shows as 0 (log 5). -/
  transients : s.w = 0 ∧ s.v = 0

/-- The bounds of the architectural registers between two iterations (10_state.md R26, 42_calibration.md R149, 44_scaling.md R202). -/
structure Regs.Inv (p : Params) (r : Regs) : Prop where
  /-- `0 <= D <= DUR_MAX` (10_state.md R26). -/
  duration : r.D ≤ p.durMax
  /-- `0 <= B <= 2 * MAXBURST` (44_scaling.md R202). -/
  burst : 0 ≤ r.B ∧ r.B ≤ 2 * (p.maxBurst : Int)
  /-- "In `Centering`, `D` never exceeds 20" (42_calibration.md R149). -/
  centeringDuration : r.S = .centering → r.D ≤ 20
  /-- In `Centering`, `OFF` is a sum of one plausible deviation for each count from 10 on (42_calibration.md R148, R149). -/
  centeringSum : r.S = .centering → |r.OFF| ≤ 1500 * ((r.D - 10 : Nat) : Int)
  /-- After `Centering`, `-1500 <= OFF <= 1500` (42_calibration.md R149). -/
  offset : r.S ≠ .centering → |r.OFF| ≤ 1500

/-- The ranges of the values of one iteration that does not fault (70_reset_and_hazards.md R291); the iterations in `Centering` are
those that run a `CAL` operation. -/
structure Iteration.InRange (p : Params) (it : Iteration) : Prop where
  raw : it.raw ≤ 16383
  centeringWidth : it.classOp.format = .cal → -1500 ≤ it.w ∧ it.w ≤ 14883
  width : -3000 ≤ it.w ∧ it.w ≤ 16383
  scaled : -3000 ≤ it.v ∧ it.v ≤ 16383
  out : 0 ≤ it.out ∧ it.out ≤ 17883
  forwardProduct : it.regs.S = .forward → -78 ≤ 2 * it.w ∧ 2 * it.w ≤ 32766
  reverseProduct : it.regs.S = .reverse → -6000 ≤ it.w * p.revNum ∧ it.w * p.revNum ≤ 78

/-- The levels of `ppm_in` that present one pulse for each pair of a low time and a high time, in samples, one level a step: each pulse
is followed by the low sample that ends it and, for as long as the iteration it causes takes, by a low line; the pulse that ends
the run in a fault is the last. -/
def pulseLevels (p : Params) : Regs → List (Nat × Nat) → List Pins
  | _, [] => []
  | r, (low, high) :: rest =>
    levels false low ++ levels true high ++ levels false 1 ++
      match iterate p r (conv p high) with
      | .ok it => levels false (1 + (emitCount p it.out).toNat) ++ pulseLevels p it.regs rest
      | .error _ => levels false 1

end Sys2Proof.Machine
end

