-- ==== Sys2Proof/Certificates/Slice0/Obligations.lean ====
section
/-! DEFINITION. The statements for the provers. Each is a `def Obligations.<Name> : Prop`; its docstring names the rules of spec/ it
rests on. `Config.params` is uninterpreted inside 70_reset_and_hazards.md R282, so a statement about `exec`, `step` or `run` holds
for every legal parameter set. -/

open Sys2Proof Sys2Proof.Machine

/-! ### Codes, decision words, decode -/

/-- The decoder reads every operation back from its word, whatever stands in the bits its row ignores, and a word that selects an
operation is that operation's word, bit for bit (30_encoding.md R75 to R83). -/
def Obligations.DecodeAgreesWithEncode : Prop :=
  (∀ (i : Instr) (x : Nat), decode i.format (encodeWith i x) = .ok i) ∧
    ∀ (f : Format) (w : Nat) (i : Instr), decode f w = .ok i → i.format = f ∧ encodeWith i w = w

/-- A word selects a row exactly when it agrees with the row's pattern under the row's mask (30_encoding.md section 4, R80 to
R83). -/
def Obligations.WordSelectsTheRowItMatches : Prop :=
  ∀ (f : Format) (w : Nat) (i : Instr), w < 2 ^ f.width →
    (decode f w = .ok i ↔ i.row.format = f ∧ w &&& i.row.mask = i.row.pattern)

/-- Every word made only of legal codes selects an operation; a word with a reserved code is `IllegalCode` with that word, never
some other operation; a number too wide for the format is no word of it (30_encoding.md R84, R86). -/
def Obligations.ReservedWordsAreIllegalCodes : Prop :=
  ∀ (f : Format) (w : Nat),
    (wordLegal f w = true → ∃ i, decode f w = .ok i) ∧
      (w < 2 ^ f.width → wordLegal f w = false → decode f w = .error (.illegalCode f w)) ∧
      (2 ^ f.width ≤ w → decode f w = .error (.tooWide f w))

/-- Words written out bit by bit from 30_encoding.md R80 to R83, one or two of each format. -/
def Obligations.WordsOfEachFormatDecode : Prop :=
  decode .ph 0b0011 = .ok .capArmStart ∧ decode .ph 0b0111 = .ok .loopCompute ∧ decode .ph 0b1001 = .ok .emitEnd ∧
    decode .cal 0b101 = .ok .calAcc ∧ decode .cal 0b011 = .ok .calHold ∧
    decode .dsm 0b011001 = .ok .dsmFwdStop ∧ decode .dsm 0b001100 = .ok .dsmIdleRev ∧
    decode .pol 0b01110 = .ok .polFwdLockout ∧ decode .pol 0b10101 = .ok .polPassBrk ∧
    decode .u 0 = .ok .durInc

/-! ### Arithmetic -/

/-- `quot` truncates toward zero (00_scope.md R12). -/
def Obligations.QuotTruncatesTowardZero : Prop :=
  (∀ a b : Int, 0 < b →
      (0 ≤ a → quot a b = ⌊(a : ℚ) / b⌋) ∧ (a < 0 → quot a b = -⌊(-a : ℚ) / b⌋) ∧ quot a b = Int.tdiv a b) ∧
    quot 7 5 = 1 ∧ quot (-7) 5 = -1 ∧ quot (-78) 5 = -15 ∧ quot 0 10 = 0

/-- A scaled width keeps its sign, never grows, is 0 at 0 and is odd in the width; the product is formed before the division
(44_scaling.md R206). -/
def Obligations.ScaleReducesSymmetrically : Prop :=
  (∀ w num den : Int, 0 ≤ num → num ≤ den → 0 < den →
    scale w num den = quot (w * num) den ∧ (0 ≤ w → 0 ≤ scale w num den) ∧ (w ≤ 0 → scale w num den ≤ 0) ∧
      |scale w num den| ≤ |w| ∧ scale 0 num den = 0 ∧ scale (-w) num den = -scale w num den) ∧
    scale 100 2 5 = 40 ∧ scale 500 2 5 = 200

/-- The three width classes, at every integer (43_state_machine.md R161). -/
def Obligations.WidthClassPartitionsTheIntegers : Prop :=
  ∀ w : Int,
    (widthClass w = .neg ↔ w ≤ -40) ∧ (widthClass w = .pos ↔ 40 ≤ w) ∧ (widthClass w = .mid ↔ -40 < w ∧ w < 40)

/-- The emitted pulse is never shorter than requested and longer by at most one quantum: `out < N * qe <= out + qe`, in clock
cycles times `10^6` (41_emission.md R121, R126). -/
def Obligations.EmitCountIsLongerByAtMostOneQuantum : Prop :=
  ∀ (p : Params) (out : Int), p.wf = true → 0 ≤ out →
    1 ≤ emitCount p out ∧
      out * p.fClkHz < emitCount p out * (p.emitCpl * 1000000) ∧
      emitCount p out * (p.emitCpl * 1000000) ≤ out * p.fClkHz + p.emitCpl * 1000000

/-- An emitted pulse of `N` quanta, captured with any count the sampling can give it (`N * qe - q < n * q < N * qe + q`,
40_capture.md R110), reads back within the quantisation of capture and emission (41_emission.md R126). -/
def Obligations.RoundTripWithinQuantisation : Prop :=
  ∀ (p : Params) (out : Int) (n : Nat), p.wf = true → 0 ≤ out →
    emitCount p out * p.emitCpl - p.capCpl < (n : Int) * p.capCpl →
    (n : Int) * p.capCpl < emitCount p out * p.emitCpl + p.capCpl →
      out * p.fClkHz - p.capCpl * 1000000 - p.fClkHz < (conv p n : Int) * p.fClkHz ∧
        (conv p n : Int) * p.fClkHz < out * p.fClkHz + p.emitCpl * 1000000 + p.capCpl * 1000000

/-! ### Reset -/

/-- The state after reset (10_state.md R38). -/
def Obligations.ResetState : Prop :=
  State.reset.S = .centering ∧ State.reset.D = 0 ∧ State.reset.OFF = 0 ∧ State.reset.B = 0 ∧
    State.reset.PHASE = .align ∧ State.reset.NCNT = 0 ∧ State.reset.ECNT = 0 ∧ State.reset.ppmOut = false ∧
    State.reset.IND = .syncing ∧ State.reset.REAR = false ∧ State.reset.RAWQ = 0 ∧ State.reset.rawStrobe = false

/-- Reset is taken at every clock edge from the one that begins a step to the one that ends it, in any phase and whatever the operation
of the step would have done, a fault included, and gives every register and output its reset value (70_reset_and_hazards.md R270). The
fields `stimulus`, `tick` and `clk`, and that the edge that ends a step may be given to that step, are the model's choice (logs 2, 3,
14, 19). -/
def Obligations.ResetFromAnyState : Prop :=
  ∀ (s : State) (k : Nat),
    (s.resetEdge = some k →
      step s = .next { State.reset with stimulus := s.stimulus.tail, tick := s.tick + 1, clk := s.clk + (k + 1) }) ∧
      ∀ (level : Level) (rest : List Pins), s.stimulus = ⟨some k, level⟩ :: rest →
        (s.resetEdge = some k ↔ k ≤ phaseCycles Config.params s.PHASE)

/-! ### The operations, one by one: word, effect, frame -/

/-- `CAP.ALIGN.WAIT`, `CAP.ALIGN.EXIT` and `CAP.ARM.WAIT` write the phase and nothing else (40_capture.md R102, R103, R104). -/
def Obligations.CaptureWaitsWriteOnlyThePhase : Prop :=
  ∀ s : State,
    (decode .ph 0b0001 = .ok .capAlignWait ∧ exec .capAlignWait s = .next { s with PHASE := .align }) ∧
      (decode .ph 0b0000 = .ok .capAlignExit ∧ exec .capAlignExit s = .next { s with PHASE := .arm }) ∧
      (decode .ph 0b0010 = .ok .capArmWait ∧ exec .capArmWait s = .next { s with PHASE := .arm })

/-- `CAP.ARM.START` counts the sample that reveals the edge, `CAP.MEAS.COUNT` one more, and neither writes anything else
(40_capture.md R105, R106). -/
def Obligations.CaptureCountsHighSamples : Prop :=
  ∀ s : State,
    (decode .ph 0b0011 = .ok .capArmStart ∧ exec .capArmStart s = .next { s with NCNT := 1, PHASE := .measure }) ∧
      (decode .ph 0b0101 = .ok .capMeasCount ∧ exec .capMeasCount s = .next { s with NCNT := s.NCNT + 1 })

/-- `CAP.MEAS.END` presents the converted width and goes to `COMPUTE`, or raises `CaptureRange` with the count when the width is
above `RAW_MAX` (40_capture.md R107, R108, 60_exceptions.md R241). -/
def Obligations.MeasureEndPresentsTheWidth : Prop :=
  ∀ (s : State) (raw : Nat), raw = s.NCNT * Config.params.capCpl * 1000000 / Config.params.fClkHz →
    decode .ph 0b0100 = .ok .capMeasEnd ∧
      (raw ≤ 16383 → exec .capMeasEnd s = .next { s with RAWQ := raw, rawStrobe := true, PHASE := .compute }) ∧
      (16383 < raw → exec .capMeasEnd s = .fault (.captureRange s.NCNT))

/-- `EMIT.HOLD` counts one quantum down; `EMIT.END` lowers the line, increments the duration and goes back to `ALIGN`
(41_emission.md R123, R124). -/
def Obligations.EmissionOperations : Prop :=
  ∀ s : State,
    (decode .ph 0b1000 = .ok .emitHold ∧ exec .emitHold s = .next { s with ECNT := s.ECNT - 1 }) ∧
      (decode .ph 0b1001 = .ok .emitEnd ∧
        exec .emitEnd s = .next { s with ECNT := 0, ppmOut := false, D := min (s.D + 1) 255, PHASE := .align })

/-- The four calibration operations (42_calibration.md R144 to R147), and the net effect of `CAL.HOLD` with the end-of-loop
increment (R144). -/
def Obligations.CalibrationOperations : Prop :=
  ∀ (s : State) (a b : Bool),
    (decodeCal ⟨false, a, b⟩ = .calHold ∧ exec .calHold s = .next { s with D := max (s.D - 1) 0 } ∧
        exec .durInc { s with D := max (s.D - 1) 0 } =
          .next { s with D := if s.D = 0 then 1 else min s.D 255 }) ∧
      (decodeCal ⟨true, false, false⟩ = .calSettle ∧ exec .calSettle s = .next s) ∧
      (decodeCal ⟨true, false, true⟩ = .calAcc ∧ exec .calAcc s = .next { s with OFF := s.OFF + s.w }) ∧
      (decodeCal ⟨true, true, b⟩ = .calDone ∧
        exec .calDone s = .next { s with OFF := Int.tdiv s.OFF 10, S := .idle, D := 0 })

/-- The ten transitions enter their state and restart the duration, and write nothing else (43_state_machine.md R162, R164, R165,
R167, R168, R171, R172, R175, R176, R178, R179). -/
def Obligations.DrivingTransitions : Prop :=
  ∀ (s : State) (d : Bool),
    (decodeDsm ⟨0b001#3, 0b10#2, d⟩ = some .dsmIdleRev ∧ exec .dsmIdleRev s = .next { s with S := .reverse, D := 0 }) ∧
      (decodeDsm ⟨0b001#3, 0b01#2, d⟩ = some .dsmIdleFwd ∧ exec .dsmIdleFwd s = .next { s with S := .forward, D := 0 }) ∧
      (decodeDsm ⟨0b010#3, 0b01#2, d⟩ = some .dsmRevFwd ∧ exec .dsmRevFwd s = .next { s with S := .forward, D := 0 }) ∧
      (decodeDsm ⟨0b010#3, 0b00#2, true⟩ = some .dsmRevIdle ∧ exec .dsmRevIdle s = .next { s with S := .idle, D := 0 }) ∧
      (decodeDsm ⟨0b011#3, 0b10#2, d⟩ = some .dsmFwdBrk ∧ exec .dsmFwdBrk s = .next { s with S := .braking, D := 0 }) ∧
      (decodeDsm ⟨0b011#3, 0b00#2, true⟩ = some .dsmFwdStop ∧ exec .dsmFwdStop s = .next { s with S := .stopped, D := 0 }) ∧
      (decodeDsm ⟨0b100#3, 0b01#2, d⟩ = some .dsmStopFwd ∧ exec .dsmStopFwd s = .next { s with S := .forward, D := 0 }) ∧
      (decodeDsm ⟨0b100#3, 0b10#2, d⟩ = some .dsmStopBrk ∧ exec .dsmStopBrk s = .next { s with S := .braking, D := 0 }) ∧
      (decodeDsm ⟨0b101#3, 0b01#2, d⟩ = some .dsmBrkFwd ∧ exec .dsmBrkFwd s = .next { s with S := .forward, D := 0 }) ∧
      (decodeDsm ⟨0b101#3, 0b00#2, true⟩ = some .dsmBrkIdle ∧ exec .dsmBrkIdle s = .next { s with S := .idle, D := 0 })

/-- The eight stays write nothing (43_state_machine.md R162, R166, R169, R170, R173, R174, R177, R180, R181). -/
def Obligations.DrivingStays : Prop :=
  ∀ (s : State) (d : Bool),
    (decodeDsm ⟨0b001#3, 0b00#2, d⟩ = some .dsmIdleStay ∧ exec .dsmIdleStay s = .next s) ∧
      (decodeDsm ⟨0b010#3, 0b10#2, d⟩ = some .dsmRevKeep ∧ exec .dsmRevKeep s = .next s) ∧
      (decodeDsm ⟨0b010#3, 0b00#2, false⟩ = some .dsmRevWait ∧ exec .dsmRevWait s = .next s) ∧
      (decodeDsm ⟨0b011#3, 0b01#2, d⟩ = some .dsmFwdKeep ∧ exec .dsmFwdKeep s = .next s) ∧
      (decodeDsm ⟨0b011#3, 0b00#2, false⟩ = some .dsmFwdWait ∧ exec .dsmFwdWait s = .next s) ∧
      (decodeDsm ⟨0b100#3, 0b00#2, d⟩ = some .dsmStopStay ∧ exec .dsmStopStay s = .next s) ∧
      (decodeDsm ⟨0b101#3, 0b10#2, d⟩ = some .dsmBrkKeep ∧ exec .dsmBrkKeep s = .next s) ∧
      (decodeDsm ⟨0b101#3, 0b00#2, false⟩ = some .dsmBrkWait ∧ exec .dsmBrkWait s = .next s)

/-- `POL.SYNC` and the three `POL.PASS` operations pass the width through; the three decrement the burst counter, clamped at 0
(44_scaling.md R193 to R197). -/
def Obligations.PassThroughPolicies : Prop :=
  ∀ (s : State) (f a : Bool),
    (decodePol ⟨0b000#3, f, a⟩ = some .polSync ∧ exec .polSync s = .next { s with v := s.w, IND := .syncing }) ∧
      (decodePol ⟨0b001#3, f, a⟩ = some .polPassIdle ∧
        exec .polPassIdle s = .next { s with v := s.w, B := max (s.B - 1) 0, IND := .off }) ∧
      (decodePol ⟨0b100#3, f, a⟩ = some .polPassStop ∧
        exec .polPassStop s = .next { s with v := s.w, B := max (s.B - 1) 0, IND := .off }) ∧
      (decodePol ⟨0b101#3, f, a⟩ = some .polPassBrk ∧
        exec .polPassBrk s = .next { s with v := s.w, B := max (s.B - 1) 0, IND := .off })

/-- `POL.REV` scales by the reverse fraction and decrements the burst counter; the three forward policies increment it with the
lock, and all but `POL.FWD_BURST` scale by 2/5 (44_scaling.md R192, R198 to R201). -/
def Obligations.ScalingPolicies : Prop :=
  ∀ (s : State) (f a : Bool) (up : Int),
    up = (if (Config.params.maxBurst : Int) ≤ s.B + 1 then 2 * (Config.params.maxBurst : Int) else s.B + 1) →
    (decodePol ⟨0b010#3, f, a⟩ = some .polRev ∧
        exec .polRev s = .next { s with v := Int.tdiv (s.w * Config.params.revNum) Config.params.revDen,
                                        B := max (s.B - 1) 0, IND := .limited }) ∧
      (decodePol ⟨0b011#3, true, true⟩ = some .polFwdBurst ∧
        exec .polFwdBurst s = .next { s with v := s.w, B := up, IND := .off }) ∧
      (decodePol ⟨0b011#3, false, a⟩ = some .polFwdCap ∧
        exec .polFwdCap s = .next { s with v := Int.tdiv (2 * s.w) 5, B := up, IND := .limited }) ∧
      (decodePol ⟨0b011#3, true, false⟩ = some .polFwdLockout ∧
        exec .polFwdLockout s = .next { s with v := Int.tdiv (2 * s.w) 5, B := up, IND := .limited })

/-- `DUR.INC` increments the duration, saturating at `DUR_MAX`, and writes nothing else (45_loop.md R225, 00_scope.md R14). -/
def Obligations.DurationIncrementSaturates : Prop :=
  ∀ s : State, decode .u 0 = .ok .durInc ∧ exec .durInc s = .next { s with D := min (s.D + 1) 255 }

/-! ### `LOOP.COMPUTE` -/

/-- `LOOP.COMPUTE` is the offset correction, then the operation the `CAL` or `DSM` word selects, then the operation the `POL` word
selects, then the rear light and `EmitStart`, each seeing the writes before it; it completes exactly when the output width is
not negative (45_loop.md R223, 41_emission.md R122). The transients are discarded at its end, which is the model's choice
(log 5). -/
def Obligations.LoopComputeRunsTheDecodedOperations : Prop :=
  ∀ (s : State) (w : Int),
    w = (if s.S = .centering then (s.RAWQ : Int) - 1500 else s.RAWQ - 1500 - s.OFF) →
    ∃ (i j : Instr) (classified scaled : State),
      (s.S = .centering →
        decode .cal (CalWord.toNat ⟨decide (-1500 ≤ w ∧ w ≤ 1500), decide (20 ≤ s.D), decide (10 ≤ s.D)⟩) = .ok i) ∧
      (s.S ≠ .centering →
        decode .dsm (DsmWord.toNat ⟨s.S.code, (widthClass w).code, decide (4 ≤ s.D)⟩) = .ok i) ∧
      exec i { s with w := w } = .next classified ∧
      decode .pol (PolWord.toNat
          ⟨classified.S.code, decide (Config.params.fwdFull ≤ w), decide (s.B < Config.params.maxBurst)⟩) = .ok j ∧
      exec j classified = .next scaled ∧
      (0 ≤ scaled.v + 1500 →
        exec .loopCompute s =
          .next { scaled with REAR := decide (scaled.S = .braking ∨ scaled.S = .reverse),
                              ECNT := (scaled.v + 1500) * Config.params.fClkHz /
                                (Config.params.emitCpl * 1000000) + 1,
                              ppmOut := true, PHASE := .emit, w := 0, v := 0 }) ∧
      (scaled.v + 1500 < 0 → exec .loopCompute s = .fault (.emitRange (scaled.v + 1500)))

/-- In `Centering` the iteration always completes: the four cases of the stage in the order of 42_calibration.md R142, with the
raw width emitted unchanged (R140, R143 to R147, R152; 44_scaling.md R194, R195, R208, R210). That `w` and `v` are 0 afterwards is
the model's choice (log 5). -/
def Obligations.CenteringIteration : Prop :=
  ∀ (s u : State), s.S = .centering →
    u = { s with IND := .syncing, REAR := false, ECNT := emitCount Config.params s.RAWQ, ppmOut := true,
                 PHASE := .emit, w := 0, v := 0 } →
    (3000 < s.RAWQ → exec .loopCompute s = .next { u with D := s.D - 1 }) ∧
      (s.RAWQ ≤ 3000 → s.D < 10 → exec .loopCompute s = .next u) ∧
      (s.RAWQ ≤ 3000 → 10 ≤ s.D → s.D < 20 →
        exec .loopCompute s = .next { u with OFF := s.OFF + (s.RAWQ - 1500) }) ∧
      (s.RAWQ ≤ 3000 → 20 ≤ s.D →
        exec .loopCompute s =
          .next { u with OFF := Int.tdiv s.OFF 10, S := .idle, D := 0, IND := .off, B := max (s.B - 1) 0 })

/-- The state machine outside `Centering`, as a table over the state, the class and the dwell; a change of state restarts the
duration, a stay leaves it (43_state_machine.md R160 to R182). -/
def Obligations.DrivingTable : Prop :=
  ∀ (s t : State) (w : Int), s.S ≠ .centering → w = (s.RAWQ : Int) - 1500 - s.OFF →
    exec .loopCompute s = .next t →
    (40 ≤ w → t.S = .forward) ∧
      (w ≤ -40 → (s.S = .idle ∨ s.S = .reverse → t.S = .reverse) ∧
        (s.S = .forward ∨ s.S = .stopped ∨ s.S = .braking → t.S = .braking)) ∧
      (-40 < w → w < 40 → s.D < 4 → t.S = s.S) ∧
      (-40 < w → w < 40 → 4 ≤ s.D →
        (s.S = .idle ∨ s.S = .reverse ∨ s.S = .braking → t.S = .idle) ∧
          (s.S = .forward ∨ s.S = .stopped → t.S = .stopped)) ∧
      t.D = (if t.S = s.S then s.D else 0) ∧ t.OFF = s.OFF

/-- A near-centre width makes no transition out of `Forward`, `Reverse` or `Braking` before the dwell, and makes the debounced one
after it; `Idle` and `Stopped` stay; and such an iteration always completes (43_state_machine.md R185). -/
def Obligations.NearCentreNeedsTheDwell : Prop :=
  ∀ s : State, s.S ≠ .centering → -40 < (s.RAWQ : Int) - 1500 - s.OFF → (s.RAWQ : Int) - 1500 - s.OFF < 40 →
    ∃ t, exec .loopCompute s = .next t ∧
      (s.D < 4 → s.S = .forward ∨ s.S = .reverse ∨ s.S = .braking → t.S = s.S) ∧
      (4 ≤ s.D → (s.S = .forward → t.S = .stopped) ∧ (s.S = .reverse ∨ s.S = .braking → t.S = .idle)) ∧
      (s.S = .idle ∨ s.S = .stopped → t.S = s.S)

/-- The width, the burst counter, the indicator and the rear light that the policy of the new state gives
(44_scaling.md R190 to R201, R205, R207, R208, R210). -/
def Obligations.PolicyOfTheNewState : Prop :=
  ∀ (s t : State) (w : Int),
    w = (if s.S = .centering then (s.RAWQ : Int) - 1500 else s.RAWQ - 1500 - s.OFF) →
    exec .loopCompute s = .next t →
    (t.S = .centering → t.ECNT = emitCount Config.params (w + 1500) ∧ t.B = s.B ∧ t.IND = .syncing) ∧
      (t.S = .idle ∨ t.S = .stopped ∨ t.S = .braking →
        t.ECNT = emitCount Config.params (w + 1500) ∧ t.B = max (s.B - 1) 0 ∧ t.IND = .off) ∧
      (t.S = .reverse →
        t.ECNT = emitCount Config.params (Int.tdiv (w * Config.params.revNum) Config.params.revDen + 1500) ∧
          t.B = max (s.B - 1) 0 ∧ t.IND = .limited) ∧
      (t.S = .forward →
        (t.B = if (Config.params.maxBurst : Int) ≤ s.B + 1 then 2 * (Config.params.maxBurst : Int) else s.B + 1) ∧
          (Config.params.fwdFull ≤ w ∧ s.B < Config.params.maxBurst →
            t.ECNT = emitCount Config.params (w + 1500) ∧ t.IND = .off) ∧
          (w < Config.params.fwdFull ∨ (Config.params.maxBurst : Int) ≤ s.B →
            t.ECNT = emitCount Config.params (Int.tdiv (2 * w) 5 + 1500) ∧ t.IND = .limited)) ∧
      (t.REAR = true ↔ t.S = .braking ∨ t.S = .reverse)

/-- `LOOP.COMPUTE` completes, raises the line and leaves everything that is not its own to write (45_loop.md R223), in `Centering` and
whenever the raw width is not below the offset; below the offset, a state that ends in `Braking` raises `EmitRange` with the output
width (60_exceptions.md R242, 41_emission.md R122, 10_state.md R27). That `w` and `v` are 0 afterwards, and the fields `stimulus`,
`tick` and `clk`, are the model's choice (logs 2, 5, 14). -/
def Obligations.LoopComputeCompletesAboveTheOffset : Prop :=
  ∀ s : State,
    (s.S = .centering ∨ s.OFF ≤ s.RAWQ →
      ∃ t, exec .loopCompute s = .next t ∧ t.PHASE = .emit ∧ t.ppmOut = true ∧ 1 ≤ t.ECNT ∧
        t.NCNT = s.NCNT ∧ t.RAWQ = s.RAWQ ∧ t.rawStrobe = s.rawStrobe ∧ t.w = 0 ∧ t.v = 0 ∧
        t.stimulus = s.stimulus ∧ t.tick = s.tick ∧ t.clk = s.clk) ∧
      ((s.S = .forward ∨ s.S = .stopped ∨ s.S = .braking) → (s.RAWQ : Int) < s.OFF →
        exec .loopCompute s = .fault (.emitRange (s.RAWQ - s.OFF)))

/-- `LOOP.COMPUTE` followed by the end-of-loop increment is `Iterate` on the registers and the raw width: the same registers,
outputs and output width, or the same fault (00_scope.md R18, 45_loop.md R224). -/
def Obligations.LoopComputeAgreesWithIterate : Prop :=
  ∀ s : State, s.RAWQ ≤ 16383 →
    (∀ it, iterate Config.params s.regs s.RAWQ = .ok it →
      ∃ t u, exec .loopCompute s = .next t ∧ exec .durInc t = .next u ∧ u.regs = it.regs ∧ t.IND = it.IND ∧
        t.REAR = it.REAR ∧ t.ECNT = emitCount Config.params it.out) ∧
      (∀ f, iterate Config.params s.regs s.RAWQ = .error f → exec .loopCompute s = .fault f)

/-! ### The step -/

/-- With `rst` low at every edge of the step, the `PH` word of a state decodes, and the step is the decoded operation on the state with
`raw_strobe` lowered unless the step has no clock cycle, followed by the environment's move: the levels of this step dropped, the step index and the clock
advanced. The strobe, the levels and the clock are the model's choices (logs 2, 9, 14, 17); that the word is decoded once a step is
30_encoding.md R75. -/
def Obligations.StepRunsTheDecodedOperation : Prop :=
  ∀ (s u : State), s.rstAsserted = false →
    u = { s with rawStrobe := s.rawStrobe && decide (phaseCycles Config.params s.PHASE = 0) } →
    (∃ i, decode .ph s.phWord.toNat = .ok i) ∧
      ∀ i, decode .ph s.phWord.toNat = .ok i →
        (∀ t, exec i u = .next t →
          step s = .next { t with stimulus := t.stimulus.tail, tick := t.tick + 1,
                                  clk := t.clk + phaseCycles Config.params s.PHASE }) ∧
          (∀ f, exec i u = .fault f → step s = .fault f) ∧
          ∀ r, exec i u ≠ .refused r

/-- The nine moves of the sequencer and the operation that makes each (45_loop.md R222). -/
def Obligations.PhaseMovesAsTheTable : Prop :=
  ∀ (s t : State), s.rstAsserted = false → step s = .next t →
    (s.PHASE = .align → s.pinRead = true → decode .ph s.phWord.toNat = .ok .capAlignWait ∧ t.PHASE = .align) ∧
      (s.PHASE = .align → s.pinRead = false → decode .ph s.phWord.toNat = .ok .capAlignExit ∧ t.PHASE = .arm) ∧
      (s.PHASE = .arm → s.pinRead = false → decode .ph s.phWord.toNat = .ok .capArmWait ∧ t.PHASE = .arm) ∧
      (s.PHASE = .arm → s.pinRead = true → decode .ph s.phWord.toNat = .ok .capArmStart ∧ t.PHASE = .measure) ∧
      (s.PHASE = .measure → s.pinRead = true → decode .ph s.phWord.toNat = .ok .capMeasCount ∧ t.PHASE = .measure) ∧
      (s.PHASE = .measure → s.pinRead = false →
        decode .ph s.phWord.toNat = .ok .capMeasEnd ∧ t.PHASE = .compute ∧ conv Config.params s.NCNT ≤ 16383) ∧
      (s.PHASE = .compute → decode .ph s.phWord.toNat = .ok .loopCompute ∧ t.PHASE = .emit) ∧
      (s.PHASE = .emit → 1 < s.ECNT → decode .ph s.phWord.toNat = .ok .emitHold ∧ t.PHASE = .emit) ∧
      (s.PHASE = .emit → s.ECNT = 1 → decode .ph s.phWord.toNat = .ok .emitEnd ∧ t.PHASE = .align)

/-- A step is never refused, and it stops only in `CaptureRange`, at the low sample that ends a pulse too long, or in `EmitRange`,
in `COMPUTE` with a negative width; `IllegalCode` is not reached. The codes of the three faults are 1, 2 and 3 (60_exceptions.md R241,
R242, R243, R249). That `rst` is low at every edge of a step that faults is the model's choice (log 19). -/
def Obligations.StepStopsOnlyOutOfRange : Prop :=
  (∀ (n : Nat) (out : Int) (fmt : Format) (word : Nat),
    (Fault.captureRange n).code = 1 ∧ (Fault.emitRange out).code = 2 ∧ (Fault.illegalCode fmt word).code = 3) ∧
  ∀ s : State,
    (∀ r, step s ≠ .refused r) ∧
      ∀ f, step s = .fault f →
        s.rstAsserted = false ∧
          ((s.PHASE = .measure ∧ s.pinRead = false ∧ 16383 < conv Config.params s.NCNT ∧
              f = .captureRange s.NCNT) ∨
            (s.PHASE = .compute ∧ ∃ out : Int, out < 0 ∧ f = .emitRange out))

/-- Nothing happens between two capture steps: no architectural register changes during capture, and no output but `raw_us` and
`raw_strobe`, which change at `CAP.MEAS.END` only (40_capture.md R112; that the strobe of an earlier step falls is log 9). -/
def Obligations.CaptureTouchesNoOtherRegister : Prop :=
  ∀ (s t : State), s.rstAsserted = false → s.PHASE = .align ∨ s.PHASE = .arm ∨ s.PHASE = .measure →
    step s = .next t →
    t.regs = s.regs ∧ t.ppmOut = s.ppmOut ∧ t.IND = s.IND ∧ t.REAR = s.REAR ∧ t.ECNT = s.ECNT ∧
      (t.RAWQ = s.RAWQ ∨ t.PHASE = .compute) ∧ (t.rawStrobe = true ↔ t.PHASE = .compute)

/-- During `COMPUTE` and `EMIT` the level of `ppm_in` is not seen, whether `rst` is low or high at an edge of the step
(20_memory.md R57). -/
def Obligations.InputUnseenOutsideCapture : Prop :=
  ∀ (s : State) (edge : Option Nat) (a b : Level) (rest : List Pins), s.PHASE = .compute ∨ s.PHASE = .emit →
    step { s with stimulus := ⟨edge, a⟩ :: rest } = step { s with stimulus := ⟨edge, b⟩ :: rest }

/-- `CalibrationOffset` is immutable after `Centering`, `Centering` is not entered again but by reset, and what writes the offset
is `CAL.ACC` or `CAL.DONE` inside `LOOP.COMPUTE` (10_state.md R26, 42_calibration.md R141, R150). -/
def Obligations.OffsetFrozenAfterCentering : Prop :=
  ∀ (s t : State), s.rstAsserted = false → step s = .next t →
    (s.S ≠ .centering → t.OFF = s.OFF ∧ t.S ≠ .centering) ∧
      (t.OFF ≠ s.OFF → s.PHASE = .compute ∧ s.S = .centering ∧ 10 ≤ s.D ∧ s.RAWQ ≤ 3000)

/-- The state changes only in `COMPUTE` and only along the edges of 43_state_machine.md R183. -/
def Obligations.StateChangesOnlyAlongTheEdges : Prop :=
  ∀ (s t : State), s.rstAsserted = false → step s = .next t →
    t.S = s.S ∨ s.PHASE = .compute ∧
      ((s.S = .centering ∧ t.S = .idle) ∨ (s.S = .idle ∧ t.S = .reverse) ∨ (s.S = .idle ∧ t.S = .forward) ∨
        (s.S = .reverse ∧ t.S = .forward) ∨ (s.S = .reverse ∧ t.S = .idle) ∨
        (s.S = .forward ∧ t.S = .braking) ∨ (s.S = .forward ∧ t.S = .stopped) ∨
        (s.S = .stopped ∧ t.S = .forward) ∨ (s.S = .stopped ∧ t.S = .braking) ∨
        (s.S = .braking ∧ t.S = .forward) ∨ (s.S = .braking ∧ t.S = .idle))

/-- The transients of an iteration are computed inside it: what `w` and `v` held before is not read by the step, whatever the phase
and whether the step goes on or faults (10_state.md R25, 45_loop.md R229). The two fields are the model's own (log 5). -/
def Obligations.StaleTransientsAreNotRead : Prop :=
  ∀ (s : State) (a b : Int),
    (∀ t, step s = .next t →
      ∃ u, step { s with w := a, v := b } = .next u ∧ { u with w := 0, v := 0 } = { t with w := 0, v := 0 }) ∧
      ∀ f, step s = .fault f → step { s with w := a, v := b } = .fault f

/-- The output ports show the registers: `ind` is `0b00` for `OFF`, `0b01` for `LIMITED` and `0b10` for `SYNCING`, as after reset, never the
reserved code, and its boolean view is `IND != OFF`; `raw_us` carries the raw width whole (20_memory.md R53, 30_encoding.md R72,
44_scaling.md R209, 10_state.md R38). -/
def Obligations.PortsShowTheRegisters : Prop :=
  (∀ s : State, s.Inv →
    s.ports.rawUs.toNat = s.RAWQ ∧
      (s.IND = .off → s.ports.ind = 0b00#2) ∧ (s.IND = .limited → s.ports.ind = 0b01#2) ∧
      (s.IND = .syncing → s.ports.ind = 0b10#2) ∧ s.ports.ind ≠ 0b11#2 ∧
      (indicatorOn s.IND = true ↔ s.IND ≠ .off) ∧ (indicatorOn s.IND = true ↔ s.ports.ind ≠ 0b00#2) ∧
      s.ports.ppmOut = s.ppmOut ∧ s.ports.rearEn = s.REAR ∧ s.ports.rawStrobe = s.rawStrobe) ∧
    State.reset.ports.ind = 0b10#2

/-! ### Invariant -/

/-- The reset state has the invariant (10_state.md R26, R38). That `w` and `v` are 0 there is the model's choice (logs 5, 13). -/
def Obligations.ResetHasTheInvariant : Prop := State.reset.Inv

/-- Every step keeps the invariant, from every state that has it (10_state.md R26, 42_calibration.md R149, 44_scaling.md R202). Its
clause on `w` and `v` rests on log 5 and its clause on `raw_strobe` on log 9. -/
def Obligations.StepKeepsTheInvariant : Prop :=
  ∀ (s t : State), s.Inv → step s = .next t → t.Inv

/-! ### Runs at the signal level -/

/-- While the line gives no edge the machine holds: `CAP.ALIGN.WAIT` under a high line, `CAP.ARM.WAIT` under a low one, with every
register and output unchanged, and `CAP.MEAS.COUNT` under a high line with `NCNT` alone moving (40_capture.md R111,
60_exceptions.md R255). The fields `stimulus`, `tick` and `clk` are the model's own (logs 2, 14). -/
def Obligations.BlockingHoldsTheState : Prop :=
  ∀ (s : State) (n : Nat) (rest : List Pins) (u : State), s.rawStrobe = false →
    u = { s with stimulus := rest, tick := s.tick + n, clk := s.clk + n * Config.params.capCpl } →
    (s.PHASE = .align → s.stimulus = levels true n ++ rest → run n s = .next u) ∧
      (s.PHASE = .arm → s.stimulus = levels false n ++ rest → run n s = .next u) ∧
      (s.PHASE = .measure → s.stimulus = levels true n ++ rest → run n s = .next { u with NCNT := s.NCNT + n })

/-- A pulse of `n` high samples seen from `ARM` is measured as `conv(n)`: after its samples and the first low one the machine is in
`COMPUTE` with that raw width presented, or the run has ended in `CaptureRange` with the count (40_capture.md R100, R105 to
R109, R114). The fields `stimulus`, `tick` and `clk` and the level of the strobe after the step are the model's choice
(logs 2, 9, 14). -/
def Obligations.CaptureMeasuresThePulse : Prop :=
  ∀ (s : State) (n : Nat) (rest : List Pins), s.PHASE = .arm → 1 ≤ n →
    s.stimulus = levels true n ++ levels false 1 ++ rest →
    run (n + 1) s =
      if conv Config.params n ≤ 16383 then
        .next { s with NCNT := n, RAWQ := conv Config.params n, rawStrobe := true, PHASE := .compute,
                       stimulus := rest, tick := s.tick + (n + 1), clk := s.clk + (n + 1) * Config.params.capCpl }
      else .fault (.captureRange n)

/-- `ppm_out` stays high for exactly the `N` quanta loaded and falls at the end of the last, whatever the input does, and the
iteration ends there with the duration incremented (41_emission.md R123, R124, R126). The fields `stimulus`, `tick` and `clk` and
the level of the strobe are the model's choice (logs 2, 9, 14). -/
def Obligations.EmissionLastsItsCount : Prop :=
  ∀ (s : State) (held rest : List Pins), s.PHASE = .emit → 1 ≤ held.length → s.ECNT = held.length →
    (∀ p ∈ held, p.rst = none) → s.stimulus = held ++ rest →
    (∀ k, k < held.length → ∃ t, run k s = .next t ∧ t.PHASE = .emit ∧ t.ppmOut = s.ppmOut ∧
        t.clk = s.clk + k * Config.params.emitCpl) ∧
      run held.length s =
        .next { s with ECNT := 0, ppmOut := false, D := min (s.D + 1) 255, PHASE := .align, rawStrobe := false,
                       stimulus := rest, tick := s.tick + held.length,
                       clk := s.clk + held.length * Config.params.emitCpl }

/-- The two levels agree on a whole iteration: from `ALIGN`, `a` low samples, a pulse of `n` high ones and a low one, then `COMPUTE`
and the emission, lead to the registers, the outputs and the emission count that `Iterate` gives for the raw width `conv(n)`,
in the number of clock cycles of 70_reset_and_hazards.md R292; where `Iterate` faults, the run faults at the operation that
raises the fault (00_scope.md R18, 45_loop.md R220, R224, R227, 60_exceptions.md R241, R242). The fields `stimulus` and `clk`, the
one `T_PROC` with the instant it counts from, and the level of the strobe are the model's choice (logs 2, 9, 14, 17). -/
def Obligations.OnePulseIsOneIteration : Prop :=
  ∀ (s : State) (a n : Nat) (held rest : List Pins), s.PHASE = .align → 1 ≤ a → 1 ≤ n →
    1 ≤ held.length → (∀ p ∈ held, p.rst = none) →
    s.stimulus = levels false a ++ levels true n ++ levels false 1 ++ held ++ rest →
    match iterate Config.params s.regs (conv Config.params n) with
    | .ok it =>
      (held.length : Int) = 1 + emitCount Config.params it.out →
        ∃ t, run (a + n + 1 + held.length) s = .next t ∧ t.regs = it.regs ∧ t.IND = it.IND ∧ t.REAR = it.REAR ∧
          t.RAWQ = conv Config.params n ∧ t.NCNT = n ∧ t.ECNT = 0 ∧ t.PHASE = .align ∧ t.ppmOut = false ∧
          t.rawStrobe = false ∧ t.stimulus = rest ∧
          (t.clk : Int) = s.clk + (a + n + 1) * Config.params.capCpl + Config.params.tProc +
            emitCount Config.params it.out * Config.params.emitCpl
    | .error (.captureRange _) => run (a + n + 1) s = .fault (.captureRange n)
    | .error f => run (a + n + 2) s = .fault f

/-- The observed run is the run: it ends in the same state or the same fault, and it shows the ports in as many clock cycles as have
gone by (45_loop.md R228, 60_exceptions.md R249). -/
def Obligations.ObservedRunIsTheRun : Prop :=
  ∀ (k : Nat) (pending : Option Iteration) (s : State),
    (observe k pending s).outcome = run k s ∧
      ∀ t, run k s = .next t → t.clk = s.clk + (observe k pending s).cycles.length

/-- The trace of a run at the signal level is the trace of the same raw widths at the iteration level: for any sequence of pulses the
completed iterations have the lines that `Iterate` gives, and the run ends with its registers, or in the fault it ends in, with that
trace of the iterations before it: `EmitRange` with the same width, or `CaptureRange` with the count of the first pulse that is not in
the trace (45_loop.md R228, 60_exceptions.md R241, R242, R249, 00_scope.md R18). How the levels are lined up is the
model's choice (log 2). -/
def Obligations.SignalTraceIsTheIterationTrace : Prop :=
  ∀ (s : State) (widths : List (Nat × Nat)) (rest : List Pins) (pending : Option Iteration), s.PHASE = .align →
    (∀ q ∈ widths, 1 ≤ q.1 ∧ 1 ≤ q.2) → s.stimulus = pulseLevels Config.params s.regs widths ++ rest →
    (observe (pulseLevels Config.params s.regs widths).length pending s).iterations =
        (runStimulus Config.params s.regs (widths.map fun q => .pulse (conv Config.params q.2))).1 ∧
      match (runStimulus Config.params s.regs (widths.map fun q => .pulse (conv Config.params q.2))).2 with
      | .ok r =>
        ∃ t, (observe (pulseLevels Config.params s.regs widths).length pending s).outcome = .next t ∧ t.regs = r ∧
          t.PHASE = .align ∧ t.stimulus = rest
      | .error f =>
        ∃ g, (observe (pulseLevels Config.params s.regs widths).length pending s).outcome = .fault g ∧
          g.code = f.code ∧
          ((∃ out, f = .emitRange out ∧ g = f) ∨
            ∃ q,
              widths[(runStimulus Config.params s.regs
                (widths.map fun q => .pulse (conv Config.params q.2))).1.length]? = some q ∧
              f = .captureRange (conv Config.params q.2) ∧ g = .captureRange q.2)

/-- The five output ports at every clock cycle of one iteration: `raw_us` shows the new width and `raw_strobe` is high for exactly one
cycle when the capture ends; `ind` and `rear_en` change together in `COMPUTE`, before the line rises; `ppm_out` is high for exactly
the `EmitCount(out)` quanta of the emission; up to a fault nothing changes (45_loop.md R228, 20_memory.md R60, 40_capture.md R107,
41_emission.md R126, 60_exceptions.md R249). The cycle of the strobe, the instant `T_PROC` counts from and the free
cycle `shift` at which the lights change are the model's choice (logs 9, 14, 17, 18), and so is `stimulus` (log 2). -/
def Obligations.PortsAtEveryCycleOfAnIteration : Prop :=
  ∀ (s : State) (a n c : Nat) (held rest : List Pins) (pending : Option Iteration),
    s.PHASE = .align → s.ppmOut = false → s.rawStrobe = false → 1 ≤ a → 1 ≤ n →
    c = (a + n + 1) * Config.params.capCpl →
    1 ≤ held.length → (∀ p ∈ held, p.rst = none) →
    s.stimulus = levels false a ++ levels true n ++ levels false 1 ++ held ++ rest →
    match iterate Config.params s.regs (conv Config.params n) with
    | .ok it =>
      (held.length : Int) = 1 + emitCount Config.params it.out →
        ∃ shift, (shift < Config.params.tProc ∨ shift = 0) ∧
          (observe (a + n + 1 + held.length) pending s).cycles =
            (List.range (c + Config.params.tProc +
                (emitCount Config.params it.out).toNat * Config.params.emitCpl)).map fun k =>
              { ppmOut := decide (c + Config.params.tProc ≤ k)
                ind := (if c + shift ≤ k then it.IND else s.IND).code
                rearEn := if c + shift ≤ k then it.REAR else s.REAR
                rawUs := BitVec.ofNat 16 (if c ≤ k then conv Config.params n else s.RAWQ)
                rawStrobe := decide (k = c) }
    | .error (.captureRange _) =>
      (observe (a + n + 1 + held.length) pending s).cycles = List.replicate ((a + n) * Config.params.capCpl) s.ports
    | .error _ => (observe (a + n + 1 + held.length) pending s).cycles = List.replicate c s.ports

/-! ### Runs at the iteration level -/

/-- An implausible pulse in `Centering` holds the count and accumulates nothing (42_calibration.md R144). -/
def Obligations.ImplausiblePulseHoldsCalibration : Prop :=
  ∀ (p : Params) (r : Regs) (raw : Nat), p.wf = true → r.S = .centering → 1 ≤ r.D → r.D ≤ p.durMax →
    3000 < raw → raw ≤ p.rawMax →
    ∃ it, iterate p r raw = .ok it ∧ it.classOp = .calHold ∧ it.regs = r ∧ it.out = raw ∧ it.IND = .syncing

/-- Twenty-one plausible pulses from reset complete calibration: `OFF` is the average of the eleventh to the twentieth deviation,
truncated toward zero, and every one of the twenty-one is emitted as it came (42_calibration.md R148, R152,
70_reset_and_hazards.md R280). -/
def Obligations.CalibrationAveragesTenPulses : Prop :=
  ∀ (p : Params) (raws : List Nat), p.wf = true → raws.length = 21 → (∀ raw ∈ raws, raw ≤ 3000) →
    ∃ tr, runStimulus p Regs.reset (raws.map .pulse) =
        (tr, .ok ⟨.idle, 1, Int.tdiv (((raws.drop 10).take 10).map (fun raw : Nat => (raw : Int) - 1500)).sum 10, 0⟩) ∧
      tr.map (fun it => it.out) = raws.map (fun raw : Nat => (raw : Int))

/-- With every raw reading `1500 + d`, the 21st iteration after reset runs `CAL.DONE` and leaves `OFF = d` exactly, `S = Idle`,
`D = 1` (42_calibration.md R153). -/
def Obligations.ConstantNeutralIsLearntExactly : Prop :=
  ∀ (p : Params) (d : Int), p.wf = true → -1500 ≤ d → d ≤ 1500 →
    ∃ (tr : List Iteration) (it : Iteration),
      runStimulus p Regs.reset (pulses (1500 + d).toNat 21) = (tr, .ok ⟨.idle, 1, d, 0⟩) ∧
        tr[20]? = some it ∧ it.classOp = .calDone

/-- A burst from rest: with `B = 0`, as long as every iteration ends in `Forward` at a width of at least `FWDFULL`, whatever the
widths, exactly the first `MAXBURST` iterations are unscaled and all later ones are scaled by 2/5, with the counter locked; and
widths of at least `FWDFULL` and 40 throughout, from any state after `Centering`, are such iterations (44_scaling.md R204,
43_state_machine.md R161). -/
def Obligations.BurstLastsMaxburstIterations : Prop :=
  ∀ (p : Params) (r : Regs) (raws : List Nat), p.wf = true → r.B = 0 →
    ((∀ it ∈ (runStimulus p r (raws.map .pulse)).1, it.regs.S = .forward ∧ p.fwdFull ≤ it.w) →
      ∀ k it, (runStimulus p r (raws.map .pulse)).1[k]? = some it →
        (k < p.maxBurst → it.polOp = .polFwdBurst ∧ it.out = it.w + 1500) ∧
          (p.maxBurst ≤ k → it.polOp = .polFwdLockout ∧ it.out = Int.tdiv (2 * it.w) 5 + 1500) ∧
          (k + 1 < p.maxBurst → it.regs.B = (k : Int) + 1) ∧
          (p.maxBurst ≤ k + 1 → it.regs.B = 2 * (p.maxBurst : Int))) ∧
      (r.S ≠ .centering →
        (∀ raw ∈ raws, raw ≤ p.rawMax ∧ 40 ≤ (raw : Int) - 1500 - r.OFF ∧ p.fwdFull ≤ (raw : Int) - 1500 - r.OFF) →
        ∃ tr r', runStimulus p r (raws.map .pulse) = (tr, .ok r') ∧
          tr.map (fun it => it.w) = raws.map (fun raw : Nat => (raw : Int) - 1500 - r.OFF) ∧
          ∀ it ∈ tr, it.regs.S = .forward ∧ p.fwdFull ≤ it.w)

/-- Recovery: iterations that end outside `Forward` and `Centering` bring the counter down by one each, clamped at 0; from the lock
value the allowance is back after `MAXBURST + 1` of them and not before, and the counter is 0 after `2 * MAXBURST`
(44_scaling.md R203). -/
def Obligations.BurstRecoversOneByOne : Prop :=
  ∀ (p : Params) (r r' : Regs) (raws : List Nat) (tr : List Iteration), p.wf = true → 0 ≤ r.B →
    runStimulus p r (raws.map .pulse) = (tr, .ok r') →
    (∀ it ∈ tr, it.regs.S ≠ .forward ∧ it.regs.S ≠ .centering) →
    r'.B = max (r.B - raws.length) 0 ∧
      (r.B = 2 * (p.maxBurst : Int) →
        (r'.B < p.maxBurst ↔ p.maxBurst + 1 ≤ raws.length) ∧ (2 * p.maxBurst ≤ raws.length → r'.B = 0))

/-- No register but `D` and no output depends on `DUR_MAX`: two runs from reset that differ only in it have the same trace but for
the duration, and end alike (45_loop.md R225). That a trace goes on across a `RESET` is the model's choice (log 20). -/
def Obligations.DurMaxIsUnobservable : Prop :=
  ∀ (p : Params) (a b : Nat) (prog : List Stimulus), p.wf = true → 20 ≤ a → 20 ≤ b →
    (runStimulus { p with durMax := a } Regs.reset prog).1.map Iteration.withoutDuration =
        (runStimulus { p with durMax := b } Regs.reset prog).1.map Iteration.withoutDuration ∧
      (runStimulus { p with durMax := a } Regs.reset prog).2.map Regs.withoutDuration =
        (runStimulus { p with durMax := b } Regs.reset prog).2.map Regs.withoutDuration

/-- Every iteration keeps the bounds of the registers and has its values in the ranges an implementation must hold, from all registers
within the bounds; where it faults in `EmitRange` the output width is not below -1500 (70_reset_and_hazards.md R291). -/
def Obligations.IterateKeepsTheRanges : Prop :=
  ∀ (p : Params) (r : Regs) (raw : Nat), p.wf = true → r.Inv p →
    (∀ it, iterate p r raw = .ok it →
      it.regs.Inv p ∧ it.InRange p ∧ (it.classOp.format = .cal ↔ r.S = .centering)) ∧
      ∀ out, iterate p r raw = .error (.emitRange out) → -1500 ≤ out ∧ out < 0

/-- The ranges an implementation must hold, for every iteration of every run from reset: the values of 70_reset_and_hazards.md R291,
`D` and `B` in 8 bits and the offset. That a run goes on across a `RESET` is the model's choice (log 20). -/
def Obligations.RunsStayInRange : Prop :=
  ∀ (p : Params) (prog : List Stimulus) (it : Iteration), p.wf = true → p.durMax ≤ 255 →
    it ∈ (runStimulus p Regs.reset prog).1 →
    it.InRange p ∧ it.regs.D ≤ 255 ∧ 0 ≤ it.regs.B ∧ it.regs.B ≤ 2 * (p.maxBurst : Int) ∧ it.regs.B ≤ 126 ∧
      (it.regs.S = .centering → |it.regs.OFF| ≤ 15000) ∧ (it.regs.S ≠ .centering → |it.regs.OFF| ≤ 1500)

/-! ### Reset inside a run -/

/-- Reset at edge `k` of any step, held over any number of further clock edges and then released. While `rst` is high every output port
has its reset value; before it the ports are as they were, with `raw_strobe` in the first cycle only and, in `COMPUTE`, the lights old
up to some cycle and new from there; the step, its fault and its iteration do not happen; and the first edge with `rst` low begins a step of
`ALIGN` from the reset state (70_reset_and_hazards.md R270, 10_state.md R38, 45_loop.md R228). The fields `stimulus`, `tick` and `clk`,
the cycle of the strobe and the cycle the lights change in are the model's choice (logs 2, 3, 9, 14, 18,
19), and so is that a step cut short does not fault (log 19). -/
def Obligations.ResetHoldsTheOutputs : Prop :=
  ∀ (s : State) (k : Nat) (a b : Level) (held rest : List Pins) (pending : Option Iteration) (u : State),
    s.stimulus = ⟨some k, a⟩ :: held ++ ⟨none, b⟩ :: rest → k ≤ phaseCycles Config.params s.PHASE →
    (∀ p ∈ held, p.rst = some 0) →
    u = { State.reset with stimulus := ⟨none, b⟩ :: rest, tick := s.tick + (held.length + 1),
                           clk := s.clk + (k + 1 + held.length) } →
    (observe (held.length + 1) pending s).outcome = .next u ∧
      (observe (held.length + 1) pending s).iterations = [] ∧
      (∃ (before : List PortLevels) (shift : Nat), before.length = k ∧
        (observe (held.length + 1) pending s).cycles = before ++ List.replicate (held.length + 1) State.reset.ports ∧
        ∀ j c, before[j]? = some c →
          c.ppmOut = s.ppmOut ∧ c.rawUs = s.ports.rawUs ∧ c.rawStrobe = (s.rawStrobe && decide (j = 0)) ∧
            (s.PHASE ≠ .compute ∨ j < shift → c.ind = s.IND.code ∧ c.rearEn = s.REAR) ∧
            (s.PHASE = .compute → shift ≤ j → ∀ t, exec .loopCompute s = .next t →
              c.ind = t.IND.code ∧ c.rearEn = t.REAR)) ∧
      step u =
        .next { u with PHASE := if b then .align else .arm, stimulus := rest, tick := u.tick + 1,
                       clk := u.clk + Config.params.capCpl }
end

