-- ==== Sys2Proof/Laws/Arith.lean ====
section
/-! SUPPORT. The primitives of 00_scope.md R12 to R14 against the integers' own operations. -/

namespace Sys2Proof.Machine

@[simp] theorem quot_zero (b : Int) : quot 0 b = 0 := by simp [quot]

/-- For a positive divisor, the quotient of a non-negative number is between 0 and it. -/
theorem quot_nonneg_bounds {a b : Int} (hb : 0 < b) (ha : 0 ≤ a) : 0 ≤ quot a b ∧ quot a b * b ≤ a := by
  simp only [quot, ha, if_true]
  exact ⟨Int.ediv_nonneg ha hb.le, Int.ediv_mul_le a hb.ne'⟩

/-- For a positive divisor, the quotient of a number that is not positive is between it and 0. -/
theorem quot_nonpos_bounds {a b : Int} (hb : 0 < b) (ha : a ≤ 0) : a ≤ quot a b ∧ quot a b ≤ 0 := by
  by_cases h : 0 ≤ a
  · have h0 : a = 0 := le_antisymm ha h
    simp [h0]
  · simp only [quot, h, if_false]
    have h1 := Int.ediv_nonneg (by omega : 0 ≤ -a) hb.le
    have h2 := Int.ediv_le_self b (by omega : 0 ≤ -a)
    omega

@[simp] theorem satdec_eq (x : Nat) : satdec x = x - 1 := by simp [satdec]

theorem satinc_le (x m : Nat) : satinc x m ≤ m := min_le_right _ _

theorem satdecSigned_nonneg (x : Int) : 0 ≤ satdecSigned x := le_max_right _ _

/-- The emission count is at least one quantum (41_emission.md R121). -/
theorem emitCount_pos (p : Params) {out : Int} (h : 0 ≤ out) : 1 ≤ emitCount p out := by
  have := Int.ediv_nonneg (by positivity : 0 ≤ out * (p.fClkHz : Int))
    (by positivity : 0 ≤ ((Config.MICROS_PER_SECOND * p.emitCpl : Nat) : Int))
  simp only [emitCount]
  omega

/-- `binc` stays within the lock value (44_scaling.md R202). -/
theorem binc_le_lock (p : Params) (B : Int) (hp : 1 ≤ p.maxBurst) : binc p B ≤ Config.burstLock p := by
  simp only [binc, Config.burstLock]
  split <;> omega

theorem binc_nonneg (p : Params) {B : Int} (hB : 0 ≤ B) : 0 ≤ binc p B := by
  simp only [binc, Config.burstLock]
  split <;> omega

end Sys2Proof.Machine
end

