-- ==== Sys2Proof/Laws/Config.lean ====
section
/-! SUPPORT. The machine's parameter set meets the constraints of 70_reset_and_hazards.md R282, whatever its open values are. -/

namespace Sys2Proof

/-- The constraints of a well-formed parameter set, one by one. -/
theorem Params.wf_iff (p : Params) :
    p.wf = true ↔ 1 ≤ p.maxBurst ∧ p.maxBurst ≤ 63 ∧ 0 < p.revNum ∧ p.revNum ≤ p.revDen ∧ p.revNum ≤ 2 ∧
      0 < p.fClkHz ∧ 0 < p.capCpl ∧ 0 < p.emitCpl ∧ 20 ≤ p.durMax ∧ 3000 ≤ p.rawMax ∧ p.rawMax ≤ 16383 := by
  simp only [Params.wf, Bool.and_eq_true, decide_eq_true_eq, and_assoc, Config.CAL_END]

@[simp] theorem Config.params_durMax : Config.params.durMax = 255 := rfl

@[simp] theorem Config.params_rawMax : Config.params.rawMax = 16383 := rfl

/-- The machine's own parameter set is well formed. -/
theorem Config.params_wf : Config.params.wf = true := by
  rw [Params.wf_iff]
  have hb := Config.maxBurstLessOne.isLt
  have hr := Config.revNumLessOne.isLt
  simp only [Config.params]
  omega

/-- The constraints on the machine's own parameter set, one by one. -/
theorem Config.params_bounds :
    1 ≤ Config.params.maxBurst ∧ Config.params.maxBurst ≤ 63 ∧ 0 < Config.params.revNum ∧
      Config.params.revNum ≤ Config.params.revDen ∧ Config.params.revNum ≤ 2 ∧ 0 < Config.params.fClkHz ∧
      0 < Config.params.capCpl ∧ 0 < Config.params.emitCpl ∧ 20 ≤ Config.params.durMax ∧
      3000 ≤ Config.params.rawMax ∧ Config.params.rawMax ≤ 16383 :=
  (Params.wf_iff _).1 Config.params_wf

end Sys2Proof
end

