-- ==== Sys2Proof/Laws/Decode.lean ====
section
/-! SUPPORT. The codes are read back as written, and decoding the fields of a word assembled from legal codes always selects an
operation (30_encoding.md R82, R86). -/

namespace Sys2Proof

@[simp] theorem DrivingState.ofCode_code (x : DrivingState) : DrivingState.ofCode x.code = some x := by cases x <;> rfl

@[simp] theorem Phase.ofCode_code (x : Phase) : Phase.ofCode x.code = some x := by cases x <;> rfl

@[simp] theorem WidthClass.ofCode_code (x : WidthClass) : WidthClass.ofCode x.code = some x := by cases x <;> rfl

theorem PhWord.toNat_lt (w : PhWord) : w.toNat < 16 := by
  have h1 := w.phase.isLt
  have h2 := Bool.toNat_le w.x
  simp only [PhWord.toNat]
  omega

theorem DsmWord.toNat_lt (w : DsmWord) : w.toNat < 64 := by
  have h1 := w.state.isLt
  have h2 := w.cls.isLt
  have h3 := Bool.toNat_le w.dwell
  simp only [DsmWord.toNat]
  omega

theorem PolWord.toNat_lt (w : PolWord) : w.toNat < 32 := by
  have h1 := w.state.isLt
  have h2 := Bool.toNat_le w.full
  have h3 := Bool.toNat_le w.avail
  simp only [PolWord.toNat]
  omega

end Sys2Proof
end

