-- ==== Sys2Proof/Laws/State.lean ====
section
/-! SUPPORT. For each named update of the state, its effect on each field: true by `rfl`, so that no later proof unfolds a record
update. -/

namespace Sys2Proof.Machine

@[simp] theorem State.enter_S (s : State) (x : DrivingState) : (s.enter x).S = x := rfl
@[simp] theorem State.enter_D (s : State) (x : DrivingState) : (s.enter x).D = 0 := rfl
@[simp] theorem State.enter_OFF (s : State) (x : DrivingState) : (s.enter x).OFF = s.OFF := rfl
@[simp] theorem State.enter_B (s : State) (x : DrivingState) : (s.enter x).B = s.B := rfl
@[simp] theorem State.enter_PHASE (s : State) (x : DrivingState) : (s.enter x).PHASE = s.PHASE := rfl
@[simp] theorem State.enter_NCNT (s : State) (x : DrivingState) : (s.enter x).NCNT = s.NCNT := rfl
@[simp] theorem State.enter_ECNT (s : State) (x : DrivingState) : (s.enter x).ECNT = s.ECNT := rfl
@[simp] theorem State.enter_ppmOut (s : State) (x : DrivingState) : (s.enter x).ppmOut = s.ppmOut := rfl
@[simp] theorem State.enter_IND (s : State) (x : DrivingState) : (s.enter x).IND = s.IND := rfl
@[simp] theorem State.enter_REAR (s : State) (x : DrivingState) : (s.enter x).REAR = s.REAR := rfl
@[simp] theorem State.enter_RAWQ (s : State) (x : DrivingState) : (s.enter x).RAWQ = s.RAWQ := rfl
@[simp] theorem State.enter_rawStrobe (s : State) (x : DrivingState) : (s.enter x).rawStrobe = s.rawStrobe := rfl
@[simp] theorem State.enter_w (s : State) (x : DrivingState) : (s.enter x).w = s.w := rfl
@[simp] theorem State.enter_v (s : State) (x : DrivingState) : (s.enter x).v = s.v := rfl
@[simp] theorem State.enter_stimulus (s : State) (x : DrivingState) : (s.enter x).stimulus = s.stimulus := rfl
@[simp] theorem State.enter_tick (s : State) (x : DrivingState) : (s.enter x).tick = s.tick := rfl
@[simp] theorem State.enter_clk (s : State) (x : DrivingState) : (s.enter x).clk = s.clk := rfl

@[simp] theorem State.stay_S (s : State) : (s.stay).S = s.S := rfl
@[simp] theorem State.stay_D (s : State) : (s.stay).D = s.D := rfl
@[simp] theorem State.stay_OFF (s : State) : (s.stay).OFF = s.OFF := rfl
@[simp] theorem State.stay_B (s : State) : (s.stay).B = s.B := rfl
@[simp] theorem State.stay_PHASE (s : State) : (s.stay).PHASE = s.PHASE := rfl
@[simp] theorem State.stay_NCNT (s : State) : (s.stay).NCNT = s.NCNT := rfl
@[simp] theorem State.stay_ECNT (s : State) : (s.stay).ECNT = s.ECNT := rfl
@[simp] theorem State.stay_ppmOut (s : State) : (s.stay).ppmOut = s.ppmOut := rfl
@[simp] theorem State.stay_IND (s : State) : (s.stay).IND = s.IND := rfl
@[simp] theorem State.stay_REAR (s : State) : (s.stay).REAR = s.REAR := rfl
@[simp] theorem State.stay_RAWQ (s : State) : (s.stay).RAWQ = s.RAWQ := rfl
@[simp] theorem State.stay_rawStrobe (s : State) : (s.stay).rawStrobe = s.rawStrobe := rfl
@[simp] theorem State.stay_w (s : State) : (s.stay).w = s.w := rfl
@[simp] theorem State.stay_v (s : State) : (s.stay).v = s.v := rfl
@[simp] theorem State.stay_stimulus (s : State) : (s.stay).stimulus = s.stimulus := rfl
@[simp] theorem State.stay_tick (s : State) : (s.stay).tick = s.tick := rfl
@[simp] theorem State.stay_clk (s : State) : (s.stay).clk = s.clk := rfl

@[simp] theorem State.passWidth_S (s : State) : (s.passWidth).S = s.S := rfl
@[simp] theorem State.passWidth_D (s : State) : (s.passWidth).D = s.D := rfl
@[simp] theorem State.passWidth_OFF (s : State) : (s.passWidth).OFF = s.OFF := rfl
@[simp] theorem State.passWidth_B (s : State) : (s.passWidth).B = s.B := rfl
@[simp] theorem State.passWidth_PHASE (s : State) : (s.passWidth).PHASE = s.PHASE := rfl
@[simp] theorem State.passWidth_NCNT (s : State) : (s.passWidth).NCNT = s.NCNT := rfl
@[simp] theorem State.passWidth_ECNT (s : State) : (s.passWidth).ECNT = s.ECNT := rfl
@[simp] theorem State.passWidth_ppmOut (s : State) : (s.passWidth).ppmOut = s.ppmOut := rfl
@[simp] theorem State.passWidth_IND (s : State) : (s.passWidth).IND = s.IND := rfl
@[simp] theorem State.passWidth_REAR (s : State) : (s.passWidth).REAR = s.REAR := rfl
@[simp] theorem State.passWidth_RAWQ (s : State) : (s.passWidth).RAWQ = s.RAWQ := rfl
@[simp] theorem State.passWidth_rawStrobe (s : State) : (s.passWidth).rawStrobe = s.rawStrobe := rfl
@[simp] theorem State.passWidth_w (s : State) : (s.passWidth).w = s.w := rfl
@[simp] theorem State.passWidth_v (s : State) : (s.passWidth).v = s.w := rfl
@[simp] theorem State.passWidth_stimulus (s : State) : (s.passWidth).stimulus = s.stimulus := rfl
@[simp] theorem State.passWidth_tick (s : State) : (s.passWidth).tick = s.tick := rfl
@[simp] theorem State.passWidth_clk (s : State) : (s.passWidth).clk = s.clk := rfl

@[simp] theorem State.scaleWidth_S (s : State) (a b : Int) : (s.scaleWidth a b).S = s.S := rfl
@[simp] theorem State.scaleWidth_D (s : State) (a b : Int) : (s.scaleWidth a b).D = s.D := rfl
@[simp] theorem State.scaleWidth_OFF (s : State) (a b : Int) : (s.scaleWidth a b).OFF = s.OFF := rfl
@[simp] theorem State.scaleWidth_B (s : State) (a b : Int) : (s.scaleWidth a b).B = s.B := rfl
@[simp] theorem State.scaleWidth_PHASE (s : State) (a b : Int) : (s.scaleWidth a b).PHASE = s.PHASE := rfl
@[simp] theorem State.scaleWidth_NCNT (s : State) (a b : Int) : (s.scaleWidth a b).NCNT = s.NCNT := rfl
@[simp] theorem State.scaleWidth_ECNT (s : State) (a b : Int) : (s.scaleWidth a b).ECNT = s.ECNT := rfl
@[simp] theorem State.scaleWidth_ppmOut (s : State) (a b : Int) : (s.scaleWidth a b).ppmOut = s.ppmOut := rfl
@[simp] theorem State.scaleWidth_IND (s : State) (a b : Int) : (s.scaleWidth a b).IND = s.IND := rfl
@[simp] theorem State.scaleWidth_REAR (s : State) (a b : Int) : (s.scaleWidth a b).REAR = s.REAR := rfl
@[simp] theorem State.scaleWidth_RAWQ (s : State) (a b : Int) : (s.scaleWidth a b).RAWQ = s.RAWQ := rfl
@[simp] theorem State.scaleWidth_rawStrobe (s : State) (a b : Int) : (s.scaleWidth a b).rawStrobe = s.rawStrobe := rfl
@[simp] theorem State.scaleWidth_w (s : State) (a b : Int) : (s.scaleWidth a b).w = s.w := rfl
@[simp] theorem State.scaleWidth_v (s : State) (a b : Int) : (s.scaleWidth a b).v = scale s.w a b := rfl
@[simp] theorem State.scaleWidth_stimulus (s : State) (a b : Int) : (s.scaleWidth a b).stimulus = s.stimulus := rfl
@[simp] theorem State.scaleWidth_tick (s : State) (a b : Int) : (s.scaleWidth a b).tick = s.tick := rfl
@[simp] theorem State.scaleWidth_clk (s : State) (a b : Int) : (s.scaleWidth a b).clk = s.clk := rfl

@[simp] theorem State.burstDown_S (s : State) : (s.burstDown).S = s.S := rfl
@[simp] theorem State.burstDown_D (s : State) : (s.burstDown).D = s.D := rfl
@[simp] theorem State.burstDown_OFF (s : State) : (s.burstDown).OFF = s.OFF := rfl
@[simp] theorem State.burstDown_B (s : State) : (s.burstDown).B = satdecSigned s.B := rfl
@[simp] theorem State.burstDown_PHASE (s : State) : (s.burstDown).PHASE = s.PHASE := rfl
@[simp] theorem State.burstDown_NCNT (s : State) : (s.burstDown).NCNT = s.NCNT := rfl
@[simp] theorem State.burstDown_ECNT (s : State) : (s.burstDown).ECNT = s.ECNT := rfl
@[simp] theorem State.burstDown_ppmOut (s : State) : (s.burstDown).ppmOut = s.ppmOut := rfl
@[simp] theorem State.burstDown_IND (s : State) : (s.burstDown).IND = s.IND := rfl
@[simp] theorem State.burstDown_REAR (s : State) : (s.burstDown).REAR = s.REAR := rfl
@[simp] theorem State.burstDown_RAWQ (s : State) : (s.burstDown).RAWQ = s.RAWQ := rfl
@[simp] theorem State.burstDown_rawStrobe (s : State) : (s.burstDown).rawStrobe = s.rawStrobe := rfl
@[simp] theorem State.burstDown_w (s : State) : (s.burstDown).w = s.w := rfl
@[simp] theorem State.burstDown_v (s : State) : (s.burstDown).v = s.v := rfl
@[simp] theorem State.burstDown_stimulus (s : State) : (s.burstDown).stimulus = s.stimulus := rfl
@[simp] theorem State.burstDown_tick (s : State) : (s.burstDown).tick = s.tick := rfl
@[simp] theorem State.burstDown_clk (s : State) : (s.burstDown).clk = s.clk := rfl

@[simp] theorem State.burstUp_S (s : State) (p : Params) : (s.burstUp p).S = s.S := rfl
@[simp] theorem State.burstUp_D (s : State) (p : Params) : (s.burstUp p).D = s.D := rfl
@[simp] theorem State.burstUp_OFF (s : State) (p : Params) : (s.burstUp p).OFF = s.OFF := rfl
@[simp] theorem State.burstUp_B (s : State) (p : Params) : (s.burstUp p).B = binc p s.B := rfl
@[simp] theorem State.burstUp_PHASE (s : State) (p : Params) : (s.burstUp p).PHASE = s.PHASE := rfl
@[simp] theorem State.burstUp_NCNT (s : State) (p : Params) : (s.burstUp p).NCNT = s.NCNT := rfl
@[simp] theorem State.burstUp_ECNT (s : State) (p : Params) : (s.burstUp p).ECNT = s.ECNT := rfl
@[simp] theorem State.burstUp_ppmOut (s : State) (p : Params) : (s.burstUp p).ppmOut = s.ppmOut := rfl
@[simp] theorem State.burstUp_IND (s : State) (p : Params) : (s.burstUp p).IND = s.IND := rfl
@[simp] theorem State.burstUp_REAR (s : State) (p : Params) : (s.burstUp p).REAR = s.REAR := rfl
@[simp] theorem State.burstUp_RAWQ (s : State) (p : Params) : (s.burstUp p).RAWQ = s.RAWQ := rfl
@[simp] theorem State.burstUp_rawStrobe (s : State) (p : Params) : (s.burstUp p).rawStrobe = s.rawStrobe := rfl
@[simp] theorem State.burstUp_w (s : State) (p : Params) : (s.burstUp p).w = s.w := rfl
@[simp] theorem State.burstUp_v (s : State) (p : Params) : (s.burstUp p).v = s.v := rfl
@[simp] theorem State.burstUp_stimulus (s : State) (p : Params) : (s.burstUp p).stimulus = s.stimulus := rfl
@[simp] theorem State.burstUp_tick (s : State) (p : Params) : (s.burstUp p).tick = s.tick := rfl
@[simp] theorem State.burstUp_clk (s : State) (p : Params) : (s.burstUp p).clk = s.clk := rfl

@[simp] theorem State.indicate_S (s : State) (x : Indicator) : (s.indicate x).S = s.S := rfl
@[simp] theorem State.indicate_D (s : State) (x : Indicator) : (s.indicate x).D = s.D := rfl
@[simp] theorem State.indicate_OFF (s : State) (x : Indicator) : (s.indicate x).OFF = s.OFF := rfl
@[simp] theorem State.indicate_B (s : State) (x : Indicator) : (s.indicate x).B = s.B := rfl
@[simp] theorem State.indicate_PHASE (s : State) (x : Indicator) : (s.indicate x).PHASE = s.PHASE := rfl
@[simp] theorem State.indicate_NCNT (s : State) (x : Indicator) : (s.indicate x).NCNT = s.NCNT := rfl
@[simp] theorem State.indicate_ECNT (s : State) (x : Indicator) : (s.indicate x).ECNT = s.ECNT := rfl
@[simp] theorem State.indicate_ppmOut (s : State) (x : Indicator) : (s.indicate x).ppmOut = s.ppmOut := rfl
@[simp] theorem State.indicate_IND (s : State) (x : Indicator) : (s.indicate x).IND = x := rfl
@[simp] theorem State.indicate_REAR (s : State) (x : Indicator) : (s.indicate x).REAR = s.REAR := rfl
@[simp] theorem State.indicate_RAWQ (s : State) (x : Indicator) : (s.indicate x).RAWQ = s.RAWQ := rfl
@[simp] theorem State.indicate_rawStrobe (s : State) (x : Indicator) : (s.indicate x).rawStrobe = s.rawStrobe := rfl
@[simp] theorem State.indicate_w (s : State) (x : Indicator) : (s.indicate x).w = s.w := rfl
@[simp] theorem State.indicate_v (s : State) (x : Indicator) : (s.indicate x).v = s.v := rfl
@[simp] theorem State.indicate_stimulus (s : State) (x : Indicator) : (s.indicate x).stimulus = s.stimulus := rfl
@[simp] theorem State.indicate_tick (s : State) (x : Indicator) : (s.indicate x).tick = s.tick := rfl
@[simp] theorem State.indicate_clk (s : State) (x : Indicator) : (s.indicate x).clk = s.clk := rfl

@[simp] theorem State.presentRear_S (s : State) : (s.presentRear).S = s.S := rfl
@[simp] theorem State.presentRear_D (s : State) : (s.presentRear).D = s.D := rfl
@[simp] theorem State.presentRear_OFF (s : State) : (s.presentRear).OFF = s.OFF := rfl
@[simp] theorem State.presentRear_B (s : State) : (s.presentRear).B = s.B := rfl
@[simp] theorem State.presentRear_PHASE (s : State) : (s.presentRear).PHASE = s.PHASE := rfl
@[simp] theorem State.presentRear_NCNT (s : State) : (s.presentRear).NCNT = s.NCNT := rfl
@[simp] theorem State.presentRear_ECNT (s : State) : (s.presentRear).ECNT = s.ECNT := rfl
@[simp] theorem State.presentRear_ppmOut (s : State) : (s.presentRear).ppmOut = s.ppmOut := rfl
@[simp] theorem State.presentRear_IND (s : State) : (s.presentRear).IND = s.IND := rfl
@[simp] theorem State.presentRear_REAR (s : State) : (s.presentRear).REAR = rearLight s.S := rfl
@[simp] theorem State.presentRear_RAWQ (s : State) : (s.presentRear).RAWQ = s.RAWQ := rfl
@[simp] theorem State.presentRear_rawStrobe (s : State) : (s.presentRear).rawStrobe = s.rawStrobe := rfl
@[simp] theorem State.presentRear_w (s : State) : (s.presentRear).w = s.w := rfl
@[simp] theorem State.presentRear_v (s : State) : (s.presentRear).v = s.v := rfl
@[simp] theorem State.presentRear_stimulus (s : State) : (s.presentRear).stimulus = s.stimulus := rfl
@[simp] theorem State.presentRear_tick (s : State) : (s.presentRear).tick = s.tick := rfl
@[simp] theorem State.presentRear_clk (s : State) : (s.presentRear).clk = s.clk := rfl

@[simp] theorem State.goto_S (s : State) (x : Phase) : (s.goto x).S = s.S := rfl
@[simp] theorem State.goto_D (s : State) (x : Phase) : (s.goto x).D = s.D := rfl
@[simp] theorem State.goto_OFF (s : State) (x : Phase) : (s.goto x).OFF = s.OFF := rfl
@[simp] theorem State.goto_B (s : State) (x : Phase) : (s.goto x).B = s.B := rfl
@[simp] theorem State.goto_PHASE (s : State) (x : Phase) : (s.goto x).PHASE = x := rfl
@[simp] theorem State.goto_NCNT (s : State) (x : Phase) : (s.goto x).NCNT = s.NCNT := rfl
@[simp] theorem State.goto_ECNT (s : State) (x : Phase) : (s.goto x).ECNT = s.ECNT := rfl
@[simp] theorem State.goto_ppmOut (s : State) (x : Phase) : (s.goto x).ppmOut = s.ppmOut := rfl
@[simp] theorem State.goto_IND (s : State) (x : Phase) : (s.goto x).IND = s.IND := rfl
@[simp] theorem State.goto_REAR (s : State) (x : Phase) : (s.goto x).REAR = s.REAR := rfl
@[simp] theorem State.goto_RAWQ (s : State) (x : Phase) : (s.goto x).RAWQ = s.RAWQ := rfl
@[simp] theorem State.goto_rawStrobe (s : State) (x : Phase) : (s.goto x).rawStrobe = s.rawStrobe := rfl
@[simp] theorem State.goto_w (s : State) (x : Phase) : (s.goto x).w = s.w := rfl
@[simp] theorem State.goto_v (s : State) (x : Phase) : (s.goto x).v = s.v := rfl
@[simp] theorem State.goto_stimulus (s : State) (x : Phase) : (s.goto x).stimulus = s.stimulus := rfl
@[simp] theorem State.goto_tick (s : State) (x : Phase) : (s.goto x).tick = s.tick := rfl
@[simp] theorem State.goto_clk (s : State) (x : Phase) : (s.goto x).clk = s.clk := rfl

@[simp] theorem State.pinWrite_S (s : State) (x : Level) : (s.pinWrite x).S = s.S := rfl
@[simp] theorem State.pinWrite_D (s : State) (x : Level) : (s.pinWrite x).D = s.D := rfl
@[simp] theorem State.pinWrite_OFF (s : State) (x : Level) : (s.pinWrite x).OFF = s.OFF := rfl
@[simp] theorem State.pinWrite_B (s : State) (x : Level) : (s.pinWrite x).B = s.B := rfl
@[simp] theorem State.pinWrite_PHASE (s : State) (x : Level) : (s.pinWrite x).PHASE = s.PHASE := rfl
@[simp] theorem State.pinWrite_NCNT (s : State) (x : Level) : (s.pinWrite x).NCNT = s.NCNT := rfl
@[simp] theorem State.pinWrite_ECNT (s : State) (x : Level) : (s.pinWrite x).ECNT = s.ECNT := rfl
@[simp] theorem State.pinWrite_ppmOut (s : State) (x : Level) : (s.pinWrite x).ppmOut = x := rfl
@[simp] theorem State.pinWrite_IND (s : State) (x : Level) : (s.pinWrite x).IND = s.IND := rfl
@[simp] theorem State.pinWrite_REAR (s : State) (x : Level) : (s.pinWrite x).REAR = s.REAR := rfl
@[simp] theorem State.pinWrite_RAWQ (s : State) (x : Level) : (s.pinWrite x).RAWQ = s.RAWQ := rfl
@[simp] theorem State.pinWrite_rawStrobe (s : State) (x : Level) : (s.pinWrite x).rawStrobe = s.rawStrobe := rfl
@[simp] theorem State.pinWrite_w (s : State) (x : Level) : (s.pinWrite x).w = s.w := rfl
@[simp] theorem State.pinWrite_v (s : State) (x : Level) : (s.pinWrite x).v = s.v := rfl
@[simp] theorem State.pinWrite_stimulus (s : State) (x : Level) : (s.pinWrite x).stimulus = s.stimulus := rfl
@[simp] theorem State.pinWrite_tick (s : State) (x : Level) : (s.pinWrite x).tick = s.tick := rfl
@[simp] theorem State.pinWrite_clk (s : State) (x : Level) : (s.pinWrite x).clk = s.clk := rfl

@[simp] theorem State.presentRaw_S (s : State) (x : Nat) : (s.presentRaw x).S = s.S := rfl
@[simp] theorem State.presentRaw_D (s : State) (x : Nat) : (s.presentRaw x).D = s.D := rfl
@[simp] theorem State.presentRaw_OFF (s : State) (x : Nat) : (s.presentRaw x).OFF = s.OFF := rfl
@[simp] theorem State.presentRaw_B (s : State) (x : Nat) : (s.presentRaw x).B = s.B := rfl
@[simp] theorem State.presentRaw_PHASE (s : State) (x : Nat) : (s.presentRaw x).PHASE = s.PHASE := rfl
@[simp] theorem State.presentRaw_NCNT (s : State) (x : Nat) : (s.presentRaw x).NCNT = s.NCNT := rfl
@[simp] theorem State.presentRaw_ECNT (s : State) (x : Nat) : (s.presentRaw x).ECNT = s.ECNT := rfl
@[simp] theorem State.presentRaw_ppmOut (s : State) (x : Nat) : (s.presentRaw x).ppmOut = s.ppmOut := rfl
@[simp] theorem State.presentRaw_IND (s : State) (x : Nat) : (s.presentRaw x).IND = s.IND := rfl
@[simp] theorem State.presentRaw_REAR (s : State) (x : Nat) : (s.presentRaw x).REAR = s.REAR := rfl
@[simp] theorem State.presentRaw_RAWQ (s : State) (x : Nat) : (s.presentRaw x).RAWQ = x := rfl
@[simp] theorem State.presentRaw_rawStrobe (s : State) (x : Nat) : (s.presentRaw x).rawStrobe = true := rfl
@[simp] theorem State.presentRaw_w (s : State) (x : Nat) : (s.presentRaw x).w = s.w := rfl
@[simp] theorem State.presentRaw_v (s : State) (x : Nat) : (s.presentRaw x).v = s.v := rfl
@[simp] theorem State.presentRaw_stimulus (s : State) (x : Nat) : (s.presentRaw x).stimulus = s.stimulus := rfl
@[simp] theorem State.presentRaw_tick (s : State) (x : Nat) : (s.presentRaw x).tick = s.tick := rfl
@[simp] theorem State.presentRaw_clk (s : State) (x : Nat) : (s.presentRaw x).clk = s.clk := rfl

@[simp] theorem State.latchWidth_S (s : State) (x : Int) : (s.latchWidth x).S = s.S := rfl
@[simp] theorem State.latchWidth_D (s : State) (x : Int) : (s.latchWidth x).D = s.D := rfl
@[simp] theorem State.latchWidth_OFF (s : State) (x : Int) : (s.latchWidth x).OFF = s.OFF := rfl
@[simp] theorem State.latchWidth_B (s : State) (x : Int) : (s.latchWidth x).B = s.B := rfl
@[simp] theorem State.latchWidth_PHASE (s : State) (x : Int) : (s.latchWidth x).PHASE = s.PHASE := rfl
@[simp] theorem State.latchWidth_NCNT (s : State) (x : Int) : (s.latchWidth x).NCNT = s.NCNT := rfl
@[simp] theorem State.latchWidth_ECNT (s : State) (x : Int) : (s.latchWidth x).ECNT = s.ECNT := rfl
@[simp] theorem State.latchWidth_ppmOut (s : State) (x : Int) : (s.latchWidth x).ppmOut = s.ppmOut := rfl
@[simp] theorem State.latchWidth_IND (s : State) (x : Int) : (s.latchWidth x).IND = s.IND := rfl
@[simp] theorem State.latchWidth_REAR (s : State) (x : Int) : (s.latchWidth x).REAR = s.REAR := rfl
@[simp] theorem State.latchWidth_RAWQ (s : State) (x : Int) : (s.latchWidth x).RAWQ = s.RAWQ := rfl
@[simp] theorem State.latchWidth_rawStrobe (s : State) (x : Int) : (s.latchWidth x).rawStrobe = s.rawStrobe := rfl
@[simp] theorem State.latchWidth_w (s : State) (x : Int) : (s.latchWidth x).w = x := rfl
@[simp] theorem State.latchWidth_v (s : State) (x : Int) : (s.latchWidth x).v = s.v := rfl
@[simp] theorem State.latchWidth_stimulus (s : State) (x : Int) : (s.latchWidth x).stimulus = s.stimulus := rfl
@[simp] theorem State.latchWidth_tick (s : State) (x : Int) : (s.latchWidth x).tick = s.tick := rfl
@[simp] theorem State.latchWidth_clk (s : State) (x : Int) : (s.latchWidth x).clk = s.clk := rfl

@[simp] theorem State.countDuration_S (s : State) (p : Params) : (s.countDuration p).S = s.S := rfl
@[simp] theorem State.countDuration_D (s : State) (p : Params) : (s.countDuration p).D = satinc s.D p.durMax := rfl
@[simp] theorem State.countDuration_OFF (s : State) (p : Params) : (s.countDuration p).OFF = s.OFF := rfl
@[simp] theorem State.countDuration_B (s : State) (p : Params) : (s.countDuration p).B = s.B := rfl
@[simp] theorem State.countDuration_PHASE (s : State) (p : Params) : (s.countDuration p).PHASE = s.PHASE := rfl
@[simp] theorem State.countDuration_NCNT (s : State) (p : Params) : (s.countDuration p).NCNT = s.NCNT := rfl
@[simp] theorem State.countDuration_ECNT (s : State) (p : Params) : (s.countDuration p).ECNT = s.ECNT := rfl
@[simp] theorem State.countDuration_ppmOut (s : State) (p : Params) : (s.countDuration p).ppmOut = s.ppmOut := rfl
@[simp] theorem State.countDuration_IND (s : State) (p : Params) : (s.countDuration p).IND = s.IND := rfl
@[simp] theorem State.countDuration_REAR (s : State) (p : Params) : (s.countDuration p).REAR = s.REAR := rfl
@[simp] theorem State.countDuration_RAWQ (s : State) (p : Params) : (s.countDuration p).RAWQ = s.RAWQ := rfl
@[simp] theorem State.countDuration_rawStrobe (s : State) (p : Params) : (s.countDuration p).rawStrobe = s.rawStrobe := rfl
@[simp] theorem State.countDuration_w (s : State) (p : Params) : (s.countDuration p).w = s.w := rfl
@[simp] theorem State.countDuration_v (s : State) (p : Params) : (s.countDuration p).v = s.v := rfl
@[simp] theorem State.countDuration_stimulus (s : State) (p : Params) : (s.countDuration p).stimulus = s.stimulus := rfl
@[simp] theorem State.countDuration_tick (s : State) (p : Params) : (s.countDuration p).tick = s.tick := rfl
@[simp] theorem State.countDuration_clk (s : State) (p : Params) : (s.countDuration p).clk = s.clk := rfl

@[simp] theorem State.discardTransients_S (s : State) : (s.discardTransients).S = s.S := rfl
@[simp] theorem State.discardTransients_D (s : State) : (s.discardTransients).D = s.D := rfl
@[simp] theorem State.discardTransients_OFF (s : State) : (s.discardTransients).OFF = s.OFF := rfl
@[simp] theorem State.discardTransients_B (s : State) : (s.discardTransients).B = s.B := rfl
@[simp] theorem State.discardTransients_PHASE (s : State) : (s.discardTransients).PHASE = s.PHASE := rfl
@[simp] theorem State.discardTransients_NCNT (s : State) : (s.discardTransients).NCNT = s.NCNT := rfl
@[simp] theorem State.discardTransients_ECNT (s : State) : (s.discardTransients).ECNT = s.ECNT := rfl
@[simp] theorem State.discardTransients_ppmOut (s : State) : (s.discardTransients).ppmOut = s.ppmOut := rfl
@[simp] theorem State.discardTransients_IND (s : State) : (s.discardTransients).IND = s.IND := rfl
@[simp] theorem State.discardTransients_REAR (s : State) : (s.discardTransients).REAR = s.REAR := rfl
@[simp] theorem State.discardTransients_RAWQ (s : State) : (s.discardTransients).RAWQ = s.RAWQ := rfl
@[simp] theorem State.discardTransients_rawStrobe (s : State) : (s.discardTransients).rawStrobe = s.rawStrobe := rfl
@[simp] theorem State.discardTransients_w (s : State) : (s.discardTransients).w = 0 := rfl
@[simp] theorem State.discardTransients_v (s : State) : (s.discardTransients).v = 0 := rfl
@[simp] theorem State.discardTransients_stimulus (s : State) : (s.discardTransients).stimulus = s.stimulus := rfl
@[simp] theorem State.discardTransients_tick (s : State) : (s.discardTransients).tick = s.tick := rfl
@[simp] theorem State.discardTransients_clk (s : State) : (s.discardTransients).clk = s.clk := rfl

@[simp] theorem State.lowerStrobe_S (s : State) (c : Nat) : (s.lowerStrobe c).S = s.S := rfl
@[simp] theorem State.lowerStrobe_D (s : State) (c : Nat) : (s.lowerStrobe c).D = s.D := rfl
@[simp] theorem State.lowerStrobe_OFF (s : State) (c : Nat) : (s.lowerStrobe c).OFF = s.OFF := rfl
@[simp] theorem State.lowerStrobe_B (s : State) (c : Nat) : (s.lowerStrobe c).B = s.B := rfl
@[simp] theorem State.lowerStrobe_PHASE (s : State) (c : Nat) : (s.lowerStrobe c).PHASE = s.PHASE := rfl
@[simp] theorem State.lowerStrobe_NCNT (s : State) (c : Nat) : (s.lowerStrobe c).NCNT = s.NCNT := rfl
@[simp] theorem State.lowerStrobe_ECNT (s : State) (c : Nat) : (s.lowerStrobe c).ECNT = s.ECNT := rfl
@[simp] theorem State.lowerStrobe_ppmOut (s : State) (c : Nat) : (s.lowerStrobe c).ppmOut = s.ppmOut := rfl
@[simp] theorem State.lowerStrobe_IND (s : State) (c : Nat) : (s.lowerStrobe c).IND = s.IND := rfl
@[simp] theorem State.lowerStrobe_REAR (s : State) (c : Nat) : (s.lowerStrobe c).REAR = s.REAR := rfl
@[simp] theorem State.lowerStrobe_RAWQ (s : State) (c : Nat) : (s.lowerStrobe c).RAWQ = s.RAWQ := rfl
@[simp] theorem State.lowerStrobe_rawStrobe (s : State) (c : Nat) : (s.lowerStrobe c).rawStrobe =
    (s.rawStrobe && decide (c = 0)) := rfl
@[simp] theorem State.lowerStrobe_w (s : State) (c : Nat) : (s.lowerStrobe c).w = s.w := rfl
@[simp] theorem State.lowerStrobe_v (s : State) (c : Nat) : (s.lowerStrobe c).v = s.v := rfl
@[simp] theorem State.lowerStrobe_stimulus (s : State) (c : Nat) : (s.lowerStrobe c).stimulus = s.stimulus := rfl
@[simp] theorem State.lowerStrobe_tick (s : State) (c : Nat) : (s.lowerStrobe c).tick = s.tick := rfl
@[simp] theorem State.lowerStrobe_clk (s : State) (c : Nat) : (s.lowerStrobe c).clk = s.clk := rfl

@[simp] theorem State.advance_S (s : State) (x : Nat) : (s.advance x).S = s.S := rfl
@[simp] theorem State.advance_D (s : State) (x : Nat) : (s.advance x).D = s.D := rfl
@[simp] theorem State.advance_OFF (s : State) (x : Nat) : (s.advance x).OFF = s.OFF := rfl
@[simp] theorem State.advance_B (s : State) (x : Nat) : (s.advance x).B = s.B := rfl
@[simp] theorem State.advance_PHASE (s : State) (x : Nat) : (s.advance x).PHASE = s.PHASE := rfl
@[simp] theorem State.advance_NCNT (s : State) (x : Nat) : (s.advance x).NCNT = s.NCNT := rfl
@[simp] theorem State.advance_ECNT (s : State) (x : Nat) : (s.advance x).ECNT = s.ECNT := rfl
@[simp] theorem State.advance_ppmOut (s : State) (x : Nat) : (s.advance x).ppmOut = s.ppmOut := rfl
@[simp] theorem State.advance_IND (s : State) (x : Nat) : (s.advance x).IND = s.IND := rfl
@[simp] theorem State.advance_REAR (s : State) (x : Nat) : (s.advance x).REAR = s.REAR := rfl
@[simp] theorem State.advance_RAWQ (s : State) (x : Nat) : (s.advance x).RAWQ = s.RAWQ := rfl
@[simp] theorem State.advance_rawStrobe (s : State) (x : Nat) : (s.advance x).rawStrobe = s.rawStrobe := rfl
@[simp] theorem State.advance_w (s : State) (x : Nat) : (s.advance x).w = s.w := rfl
@[simp] theorem State.advance_v (s : State) (x : Nat) : (s.advance x).v = s.v := rfl
@[simp] theorem State.advance_stimulus (s : State) (x : Nat) : (s.advance x).stimulus = s.stimulus.tail := rfl
@[simp] theorem State.advance_tick (s : State) (x : Nat) : (s.advance x).tick = s.tick + 1 := rfl
@[simp] theorem State.advance_clk (s : State) (x : Nat) : (s.advance x).clk = s.clk + x := rfl

@[simp] theorem State.resetRegisters_S (s : State) : (s.resetRegisters).S = .centering := rfl
@[simp] theorem State.resetRegisters_D (s : State) : (s.resetRegisters).D = 0 := rfl
@[simp] theorem State.resetRegisters_OFF (s : State) : (s.resetRegisters).OFF = 0 := rfl
@[simp] theorem State.resetRegisters_B (s : State) : (s.resetRegisters).B = 0 := rfl
@[simp] theorem State.resetRegisters_PHASE (s : State) : (s.resetRegisters).PHASE = .align := rfl
@[simp] theorem State.resetRegisters_NCNT (s : State) : (s.resetRegisters).NCNT = 0 := rfl
@[simp] theorem State.resetRegisters_ECNT (s : State) : (s.resetRegisters).ECNT = 0 := rfl
@[simp] theorem State.resetRegisters_ppmOut (s : State) : (s.resetRegisters).ppmOut = false := rfl
@[simp] theorem State.resetRegisters_IND (s : State) : (s.resetRegisters).IND = .syncing := rfl
@[simp] theorem State.resetRegisters_REAR (s : State) : (s.resetRegisters).REAR = false := rfl
@[simp] theorem State.resetRegisters_RAWQ (s : State) : (s.resetRegisters).RAWQ = 0 := rfl
@[simp] theorem State.resetRegisters_rawStrobe (s : State) : (s.resetRegisters).rawStrobe = false := rfl
@[simp] theorem State.resetRegisters_w (s : State) : (s.resetRegisters).w = 0 := rfl
@[simp] theorem State.resetRegisters_v (s : State) : (s.resetRegisters).v = 0 := rfl
@[simp] theorem State.resetRegisters_stimulus (s : State) : (s.resetRegisters).stimulus = s.stimulus := rfl
@[simp] theorem State.resetRegisters_tick (s : State) : (s.resetRegisters).tick = s.tick := rfl
@[simp] theorem State.resetRegisters_clk (s : State) : (s.resetRegisters).clk = s.clk := rfl

end Sys2Proof.Machine
end

