-- ==== Sys2Proof/Laws/Loop.lean ====
section
/-! SUPPORT. What the shared operations can do, said once: the operation each decision point selects, that no decision point
meets a reserved code, what `EmitStart` answers, and what a step answers. -/

namespace Sys2Proof.Machine

/-- The operation of this step, by phase (30_encoding.md R80). -/
def State.phOp (s : State) : Instr :=
  match s.PHASE with
  | .align => if s.pinRead then .capAlignWait else .capAlignExit
  | .arm => if s.pinRead then .capArmStart else .capArmWait
  | .measure => if s.pinRead then .capMeasCount else .capMeasEnd
  | .compute => .loopCompute
  | .emit => if s.ECNT = 1 then .emitEnd else .emitHold

/-- The sequencer never meets a reserved code (30_encoding.md R84). -/
theorem State.fetch_eq (s : State) : s.fetch = .ok s.phOp := by
  cases h : s.PHASE <;>
    simp [State.fetch, State.phWord, State.phX, State.phOp, h, decodePh, lastQuantum]

/-- The calibration operation of an iteration that starts in `Centering` (42_calibration.md R142). -/
def calOp (D : Nat) (w : Int) : Instr :=
  if w < -1500 ∨ 1500 < w then .calHold else if 20 ≤ D then .calDone else if 10 ≤ D then .calAcc else .calSettle

theorem decodeCal_calWord (s : State) : decodeCal s.calWord = calOp s.D s.w := by
  have h : (plausible s.w = true) ↔ ¬ (s.w < -1500 ∨ 1500 < s.w) := by
    simp only [plausible, Bool.and_eq_true, decide_eq_true_eq, Config.CAL_WINDOW]
    omega
  by_cases hp : s.w < -1500 ∨ 1500 < s.w
  · have : plausible s.w = false := by rw [Bool.eq_false_iff, Ne, h, not_not]; exact hp
    simp [decodeCal, State.calWord, calOp, hp, this]
  · have : plausible s.w = true := h.2 hp
    simp [decodeCal, State.calWord, calOp, hp, this, geEnd, geStart]

/-- `EmitStart` starts a pulse or raises `EmitRange` (41_emission.md R122). -/
theorem emitStart_cases (p : Params) (out : Int) (s : State) :
    (0 ≤ out ∧ emitStart p out s =
        .next { s with ECNT := emitCount p out, ppmOut := true, PHASE := .emit }) ∨
      (out < 0 ∧ emitStart p out s = .fault (.emitRange out)) := by
  by_cases h : out < 0
  · exact .inr ⟨h, by simp [emitStart, h, raise]⟩
  · exact .inl ⟨not_lt.1 h, by simp [emitStart, h, State.pinWrite, State.goto]⟩

/-- `CAP.MEAS.END` hands over the width or raises `CaptureRange` (40_capture.md R107). -/
theorem measureEnd_cases (p : Params) (s : State) :
    (conv p s.NCNT ≤ p.rawMax ∧ measureEnd p s =
        .next { s with RAWQ := conv p s.NCNT, rawStrobe := true, PHASE := .compute }) ∨
      (p.rawMax < conv p s.NCNT ∧ measureEnd p s = .fault (.captureRange s.NCNT)) := by
  by_cases h : p.rawMax < conv p s.NCNT
  · exact .inr ⟨h, by simp [measureEnd, h, raise]⟩
  · exact .inl ⟨not_lt.1 h, by simp [measureEnd, h, State.presentRaw, State.goto]⟩

/-- Selecting by `S` in format `POL` never meets a reserved code, and the policy selected always runs (30_encoding.md R83). -/
theorem runPolicy_ok (p : Params) (s : State) :
    ∃ i t, decodePol (s.polWord p) = some i ∧ policy p i s = some t ∧ runPolicy p s = .ok t := by
  cases h : s.S <;>
    simp only [runPolicy, State.fetchPolicy, State.polWord, decodePol, h, DrivingState.ofCode_code] <;>
    (try split) <;> (try split) <;> simp_all [policy]

/-- The state machine selected in any state but `Centering` always runs (30_encoding.md R82). -/
theorem runClassify_ok (s : State) :
    ∃ i t, s.fetchClassify = .ok i ∧ classify i s = some t ∧ runClassify s = .ok t := by
  by_cases hc : s.S = .centering
  · simp only [runClassify, State.fetchClassify, hc, if_true, decodeCal]
    cases s.calWord.plaus <;> cases s.calWord.geEnd <;> cases s.calWord.geStart <;> simp [classify]
  · cases h : s.S <;> (try (exact absurd h hc)) <;> cases hw : widthClass s.w <;> cases hd : dwell s.D <;>
      simp [runClassify, State.fetchClassify, State.dsmWord, decodeDsm, h, hw, hd, classify]

/-- The lines of `LOOP.COMPUTE` up to `EmitStart` run one calibration or state-machine operation, one policy operation and the rear light,
and always get through (45_loop.md R223, 30_encoding.md R84). -/
theorem computeOutputs_cases (p : Params) (s : State) :
    ∃ i j classified scaled, (s.latchWidth s.correctedWidth).fetchClassify = .ok i ∧
      classify i (s.latchWidth s.correctedWidth) = some classified ∧
      decodePol (classified.polWord p) = some j ∧ policy p j classified = some scaled ∧
      computeOutputs p s = .ok scaled.presentRear := by
  obtain ⟨i, classified, h1, h2, h3⟩ := runClassify_ok (s.latchWidth s.correctedWidth)
  obtain ⟨j, scaled, h4, h5, h6⟩ := runPolicy_ok p classified
  exact ⟨i, j, classified, scaled, h1, h2, h4, h5, by simp only [computeOutputs, h3, h6]⟩

/-- `LOOP.COMPUTE` runs one calibration or state-machine operation and one policy operation, then starts the emission
(45_loop.md R223). -/
theorem loopCompute_cases (p : Params) (s : State) :
    ∃ i j classified scaled, (s.latchWidth s.correctedWidth).fetchClassify = .ok i ∧
      classify i (s.latchWidth s.correctedWidth) = some classified ∧
      decodePol (classified.polWord p) = some j ∧ policy p j classified = some scaled ∧
      loopCompute p s = emitStart p scaled.outWidth scaled.presentRear.discardTransients := by
  obtain ⟨i, j, classified, scaled, h1, h2, h3, h4, h5⟩ := computeOutputs_cases p s
  exact ⟨i, j, classified, scaled, h1, h2, h3, h4, by simp only [loopCompute, h5]; rfl⟩

/-- The effect of a calibration or state-machine operation is its meaning. -/
theorem exec_of_classify {i : Instr} {s t : State} (h : classify i s = some t) : exec i s = .next t := by
  cases i <;> simp only [classify, Option.some.injEq, reduceCtorEq] at h <;> subst h <;> rfl

/-- The effect of a policy operation is its meaning. -/
theorem exec_of_policy {i : Instr} {s t : State} (h : policy Config.params i s = some t) : exec i s = .next t := by
  cases i <;> simp only [policy, Option.some.injEq, reduceCtorEq] at h <;> subst h <;> rfl

/-- With `rst` low at every edge of the step there is no edge at which reset takes effect. -/
theorem State.resetEdge_eq_none (s : State) (h : s.rstAsserted = false) : s.resetEdge = none := by
  simpa [State.rstAsserted] using h

/-- `rst` is low at every edge of a step for which the environment gives no edge. -/
theorem State.rstAsserted_of_none {s : State} (h : s.pins.rst = none) : s.rstAsserted = false := by
  simp [State.rstAsserted, State.resetEdge, h]

/-- `rst` is high at an edge of the step exactly when reset takes effect at one. -/
theorem State.rstAsserted_iff {s : State} : s.rstAsserted = true ↔ ∃ k, s.resetEdge = some k :=
  Option.isSome_iff_exists

/-- The edge at which reset takes effect is the one the environment gives, if the step lasts that long. -/
theorem State.resetEdge_eq_some {s : State} {k : Nat} :
    s.resetEdge = some k ↔ s.pins.rst = some k ∧ k ≤ phaseCycles Config.params s.PHASE := by
  unfold State.resetEdge
  split
  · simp_all
  · split <;> simp_all <;> omega

/-- What a step answers with `rst` low: the operation of its phase, then the environment's move. -/
theorem step_run {s : State} (h : s.rstAsserted = false) :
    step s = closeStep (phaseCycles Config.params s.PHASE)
      (exec s.phOp (s.lowerStrobe (phaseCycles Config.params s.PHASE))) := by
  simp [step, s.resetEdge_eq_none h, State.fetch_eq]

/-- A capture or emission quantum has a clock cycle (70_reset_and_hazards.md R282). -/
theorem phaseCycles_pos {ph : Phase} (h : ph ≠ .compute) : 0 < phaseCycles Config.params ph := by
  obtain ⟨-, -, -, -, -, -, hc, he, -⟩ := Config.params_bounds
  cases ph <;> first | exact hc | exact he | exact absurd rfl h

/-- The strobe is over after a step that has a clock cycle. -/
theorem State.lowerStrobe_of_pos (s : State) {c : Nat} (h : 0 < c) : s.lowerStrobe c = { s with rawStrobe := false } := by
  simp [State.lowerStrobe, Nat.ne_of_gt h]

/-- What a step answers with `rst` high at edge `k`, whatever its operation would have done: the reset state, `k + 1` clock cycles on
(70_reset_and_hazards.md R270). -/
theorem step_reset {s : State} {k : Nat} (h : s.resetEdge = some k) : step s = .next (s.resetRegisters.advance (k + 1)) := by
  simp [step, h, closeStep]

/-- A closed step answers a next state exactly when its operation does. -/
theorem closeStep_next {c : Nat} {r : Result} {t : State} :
    closeStep c r = .next t ↔ ∃ u, r = .next u ∧ t = u.advance c := by
  cases r <;> simp [closeStep, eq_comm]

/-- A closed step faults exactly when its operation does. -/
theorem closeStep_fault {c : Nat} {r : Result} {f : Fault} : closeStep c r = .fault f ↔ r = .fault f := by
  cases r <;> simp [closeStep]

/-- A closed step is refused exactly when its operation is. -/
theorem closeStep_refused {c : Nat} {r : Result} {f : Refusal} : closeStep c r = .refused f ↔ r = .refused f := by
  cases r <;> simp [closeStep]

end Sys2Proof.Machine
end

