-- ==== Sys2Proof/Laws/PerInstr.lean ====
section
/-! SUPPORT. Per-operation laws, one lemma per constructor of `Instr`. -/

namespace Sys2Proof.Laws.FitsItsFormat

/-- The word of the operation, whatever stands in its ignored bits, has no bit above its format's width, and its row's pattern
has no bit outside its mask (30_encoding.md section 4). -/
def Statement (i : Instr) : Prop :=
  (∀ x : Nat, encodeWith i x < 2 ^ i.format.width) ∧ i.row.pattern &&& i.row.mask = i.row.pattern

/-- A word built from a pattern and masked bits fits a width that both fit. -/
theorem encodeWith_lt {i : Instr} (hp : i.row.pattern < 2 ^ i.format.width) (hi : i.row.ignored < 2 ^ i.format.width)
    (x : Nat) : encodeWith i x < 2 ^ i.format.width :=
  Nat.or_lt_two_pow hp (Nat.and_lt_two_pow x hi)

theorem capAlignExit : Statement .capAlignExit := ⟨encodeWith_lt (by decide) (by decide), by decide⟩
theorem capAlignWait : Statement .capAlignWait := ⟨encodeWith_lt (by decide) (by decide), by decide⟩
theorem capArmWait : Statement .capArmWait := ⟨encodeWith_lt (by decide) (by decide), by decide⟩
theorem capArmStart : Statement .capArmStart := ⟨encodeWith_lt (by decide) (by decide), by decide⟩
theorem capMeasEnd : Statement .capMeasEnd := ⟨encodeWith_lt (by decide) (by decide), by decide⟩
theorem capMeasCount : Statement .capMeasCount := ⟨encodeWith_lt (by decide) (by decide), by decide⟩
theorem loopCompute : Statement .loopCompute := ⟨encodeWith_lt (by decide) (by decide), by decide⟩
theorem emitHold : Statement .emitHold := ⟨encodeWith_lt (by decide) (by decide), by decide⟩
theorem emitEnd : Statement .emitEnd := ⟨encodeWith_lt (by decide) (by decide), by decide⟩
theorem calHold : Statement .calHold := ⟨encodeWith_lt (by decide) (by decide), by decide⟩
theorem calSettle : Statement .calSettle := ⟨encodeWith_lt (by decide) (by decide), by decide⟩
theorem calAcc : Statement .calAcc := ⟨encodeWith_lt (by decide) (by decide), by decide⟩
theorem calDone : Statement .calDone := ⟨encodeWith_lt (by decide) (by decide), by decide⟩
theorem dsmIdleStay : Statement .dsmIdleStay := ⟨encodeWith_lt (by decide) (by decide), by decide⟩
theorem dsmIdleFwd : Statement .dsmIdleFwd := ⟨encodeWith_lt (by decide) (by decide), by decide⟩
theorem dsmIdleRev : Statement .dsmIdleRev := ⟨encodeWith_lt (by decide) (by decide), by decide⟩
theorem dsmRevWait : Statement .dsmRevWait := ⟨encodeWith_lt (by decide) (by decide), by decide⟩
theorem dsmRevIdle : Statement .dsmRevIdle := ⟨encodeWith_lt (by decide) (by decide), by decide⟩
theorem dsmRevFwd : Statement .dsmRevFwd := ⟨encodeWith_lt (by decide) (by decide), by decide⟩
theorem dsmRevKeep : Statement .dsmRevKeep := ⟨encodeWith_lt (by decide) (by decide), by decide⟩
theorem dsmFwdWait : Statement .dsmFwdWait := ⟨encodeWith_lt (by decide) (by decide), by decide⟩
theorem dsmFwdStop : Statement .dsmFwdStop := ⟨encodeWith_lt (by decide) (by decide), by decide⟩
theorem dsmFwdKeep : Statement .dsmFwdKeep := ⟨encodeWith_lt (by decide) (by decide), by decide⟩
theorem dsmFwdBrk : Statement .dsmFwdBrk := ⟨encodeWith_lt (by decide) (by decide), by decide⟩
theorem dsmStopStay : Statement .dsmStopStay := ⟨encodeWith_lt (by decide) (by decide), by decide⟩
theorem dsmStopFwd : Statement .dsmStopFwd := ⟨encodeWith_lt (by decide) (by decide), by decide⟩
theorem dsmStopBrk : Statement .dsmStopBrk := ⟨encodeWith_lt (by decide) (by decide), by decide⟩
theorem dsmBrkWait : Statement .dsmBrkWait := ⟨encodeWith_lt (by decide) (by decide), by decide⟩
theorem dsmBrkIdle : Statement .dsmBrkIdle := ⟨encodeWith_lt (by decide) (by decide), by decide⟩
theorem dsmBrkFwd : Statement .dsmBrkFwd := ⟨encodeWith_lt (by decide) (by decide), by decide⟩
theorem dsmBrkKeep : Statement .dsmBrkKeep := ⟨encodeWith_lt (by decide) (by decide), by decide⟩
theorem polSync : Statement .polSync := ⟨encodeWith_lt (by decide) (by decide), by decide⟩
theorem polPassIdle : Statement .polPassIdle := ⟨encodeWith_lt (by decide) (by decide), by decide⟩
theorem polRev : Statement .polRev := ⟨encodeWith_lt (by decide) (by decide), by decide⟩
theorem polFwdCap : Statement .polFwdCap := ⟨encodeWith_lt (by decide) (by decide), by decide⟩
theorem polFwdLockout : Statement .polFwdLockout := ⟨encodeWith_lt (by decide) (by decide), by decide⟩
theorem polFwdBurst : Statement .polFwdBurst := ⟨encodeWith_lt (by decide) (by decide), by decide⟩
theorem polPassStop : Statement .polPassStop := ⟨encodeWith_lt (by decide) (by decide), by decide⟩
theorem polPassBrk : Statement .polPassBrk := ⟨encodeWith_lt (by decide) (by decide), by decide⟩
theorem durInc : Statement .durInc := ⟨encodeWith_lt (by decide) (by decide), by decide⟩

end Sys2Proof.Laws.FitsItsFormat
end

