-- ==== Sys2Proof/Laws/Run.lean ====
section
/-! SUPPORT. How a run and an observed run go on: over a step that answers a next state, over a step that stops, and in two parts;
and how long a step is. -/

namespace Sys2Proof.Machine

@[simp] theorem run_zero (s : State) : run 0 s = .next s := rfl

/-- A run goes on from the next state of its first step. -/
theorem run_next {s t : State} (k : Nat) (h : step s = .next t) : run (k + 1) s = run k t := by
  have h' : Host.Core.step Sys2Proof.core s = .next t := h
  simp only [run, Host.Core.run, h']
  rfl

/-- A run ends at the first fault. -/
theorem run_fault {s : State} {f : Fault} (k : Nat) (h : step s = .fault f) : run (k + 1) s = .fault f := by
  have h' : Host.Core.step Sys2Proof.core s = .fault f := h
  simp only [run, Host.Core.run, h']
  rfl

/-- A run ends at the first refusal. -/
theorem run_refused {s : State} {r : Refusal} (k : Nat) (h : step s = .refused r) : run (k + 1) s = .refused r := by
  have h' : Host.Core.step Sys2Proof.core s = .refused r := h
  simp only [run, Host.Core.run, h']
  rfl

/-- A run in two parts. -/
theorem run_add {s t : State} {k : Nat} (l : Nat) (h : run k s = .next t) : run (k + l) s = run l t := by
  induction k generalizing s with
  | zero => cases h; rw [Nat.zero_add]
  | succ k ih =>
    rw [Nat.succ_add]
    cases hs : step s with
    | next u => rw [run_next k hs] at h; rw [run_next (k + l) hs, ih h]
    | fault f => rw [run_fault k hs] at h; cases h
    | refused r => rw [run_refused k hs] at h; cases h

@[simp] theorem observe_zero (pending : Option Iteration) (s : State) : observe 0 pending s = ⟨[], [], .next s⟩ := rfl

/-- An observed run goes on from the next state of its first step, with that step's cycles and iteration in front. -/
theorem observe_next {s t : State} (k : Nat) (pending : Option Iteration) (h : step s = .next t) :
    observe (k + 1) pending s =
      ⟨stepCycles s ++ (observe k (underWay pending s) t).cycles,
        completed pending s t ++ (observe k (underWay pending s) t).iterations,
        (observe k (underWay pending s) t).outcome⟩ := by
  simp only [observe, h]

/-- An observed run ends at the first fault, and of the faulting step nothing is claimed (60_exceptions.md R249). -/
theorem observe_fault {s : State} {f : Fault} (k : Nat) (pending : Option Iteration) (h : step s = .fault f) :
    observe (k + 1) pending s = ⟨[], [], .fault f⟩ := by
  simp only [observe, h]

/-- An observed run ends at the first refusal. -/
theorem observe_refused {s : State} {r : Refusal} (k : Nat) (pending : Option Iteration) (h : step s = .refused r) :
    observe (k + 1) pending s = ⟨[], [], .refused r⟩ := by
  simp only [observe, h]

/-- A step with `rst` low shows the ports once in every clock cycle of its phase. -/
theorem stepCycles_run {s : State} (h : s.rstAsserted = false) :
    stepCycles s = (List.range (phaseCycles Config.params s.PHASE)).map (portsInCycle Config.params s) := by
  rw [stepCycles, s.resetEdge_eq_none h]

/-- A step that a reset cuts short at edge `k` shows `k` cycles as if it were not cut, then one at the reset values
(70_reset_and_hazards.md R270). -/
theorem stepCycles_reset {s : State} {k : Nat} (h : s.resetEdge = some k) :
    stepCycles s = (List.range k).map (portsInCycle Config.params s) ++ [State.reset.ports] := by
  rw [stepCycles, h]

/-- A step with `rst` low lasts as its phase says. -/
theorem stepCycles_length {s : State} (h : s.rstAsserted = false) :
    (stepCycles s).length = phaseCycles Config.params s.PHASE := by
  simp [stepCycles_run h]

/-- A step that a reset cuts short at edge `k` lasts `k + 1` clock cycles. -/
theorem stepCycles_reset_length {s : State} {k : Nat} (h : s.resetEdge = some k) : (stepCycles s).length = k + 1 := by
  simp [stepCycles_reset h]

/-- Outside `COMPUTE` no step shows new lights before it ends. -/
theorem State.lights_of_ne_compute (p : Params) {s : State} (k : Nat) (h : s.PHASE ≠ .compute) : s.lights p k = s := by
  simp [State.lights, h]

/-- A step outside `COMPUTE` shows the ports of the state it starts from, the strobe in its first cycle only. -/
theorem portsInCycle_of_ne_compute (p : Params) {s : State} (k : Nat) (h : s.PHASE ≠ .compute) :
    portsInCycle p s k = { s.ports with rawStrobe := s.rawStrobe && decide (k = 0) } := by
  simp [portsInCycle, s.lights_of_ne_compute p k h, State.ports]

/-- The lights that `LOOP.COMPUTE` shows before it ends are those of the state it leads to. -/
theorem State.lights_of_compute {s t : State} (p : Params) (k : Nat) (hs : s.PHASE = .compute)
    (h : loopCompute p s = .next t) (hk : s.indicatorCycle p ≤ k) :
    (s.lights p k).IND = t.IND ∧ (s.lights p k).REAR = t.REAR := by
  simp only [State.lights, hs, hk, and_self, if_true]
  simp only [loopCompute] at h
  split at h
  · cases h
  · rename_i u hu
    rcases emitStart_cases p u.outWidth u.discardTransients with ⟨-, h'⟩ | ⟨-, h'⟩ <;> rw [h'] at h <;> cases h
    simp [hu]

/-- The environment's list of `count` equal levels, one level at a time. -/
theorem levels_succ (level : Level) (count : Nat) : levels level (count + 1) = ⟨none, level⟩ :: levels level count := rfl

end Sys2Proof.Machine
end

