-- ==== Sys2Proof/Tests/Slice0.lean ====
section
/-! SUPPORT. The tests: ill-formed terms that the checks refuse, one word for every operation written out from the tables of
30_encoding.md R80 to R83, vectors of 95_test_vectors.md (V.., P.., X..), and, for every statement with hypotheses, a state and
operands that meet them. Expected values are the spec's. -/

namespace Sys2Proof.Tests

open Sys2Proof Sys2Proof.Machine

/-! ### Parameter sets and well-formedness -/

/-- Profile `T1` with the timing of `TT` (95_test_vectors.md, notation). -/
def T1 : Params := ⟨300, 15, 2, 3, 8000000, 5, 4, 255, 16383, 0⟩

/-- Profile `T2` with the timing of `TT`. -/
def T2 : Params := ⟨400, 20, 1, 2, 8000000, 5, 4, 255, 16383, 0⟩

theorem test_wf_T1 : T1.wf = true := by decide
theorem test_wf_T2 : T2.wf = true := by decide
theorem test_wf_refuses_maxBurst_zero : ({ T1 with maxBurst := 0 } : Params).wf = false := by decide
theorem test_wf_refuses_maxBurst_large : ({ T1 with maxBurst := 64 } : Params).wf = false := by decide
theorem test_wf_refuses_revNum_zero : ({ T1 with revNum := 0 } : Params).wf = false := by decide
theorem test_wf_refuses_revNum_large : ({ T1 with revNum := 3 } : Params).wf = false := by decide
theorem test_wf_refuses_revDen_small : ({ T1 with revDen := 1 } : Params).wf = false := by decide
theorem test_wf_refuses_fClk_zero : ({ T1 with fClkHz := 0 } : Params).wf = false := by decide
theorem test_wf_refuses_capCpl_zero : ({ T1 with capCpl := 0 } : Params).wf = false := by decide
theorem test_wf_refuses_emitCpl_zero : ({ T1 with emitCpl := 0 } : Params).wf = false := by decide
theorem test_wf_refuses_durMax_small : ({ T1 with durMax := 19 } : Params).wf = false := by decide
theorem test_wf_refuses_rawMax_small : ({ T1 with rawMax := 2999 } : Params).wf = false := by decide
theorem test_wf_refuses_rawMax_large : ({ T1 with rawMax := 16384 } : Params).wf = false := by decide

/-- A word with a reserved phase, state or class code, `Centering` in format `DSM`, and a number too wide for its format
(30_encoding.md R84). -/
theorem test_wordLegal_refuses :
    wordLegal .ph 0b1010 = false ∧ wordLegal .ph 0b1111 = false ∧ wordLegal .dsm 0b000000 = false ∧
      wordLegal .dsm 0b110000 = false ∧ wordLegal .dsm 0b111101 = false ∧ wordLegal .dsm 0b001110 = false ∧
      wordLegal .pol 0b11000 = false ∧ wordLegal .pol 0b11111 = false ∧ wordLegal .ph 16 = false ∧
      wordLegal .cal 8 = false ∧ wordLegal .dsm 64 = false ∧ wordLegal .pol 32 = false ∧ wordLegal .u 1 = false := by
  decide

/-- The counts of legal words of 95_test_vectors.md section 9. -/
theorem test_wordLegal_counts :
    ((List.range 16).filter (wordLegal .ph)).length = 10 ∧ ((List.range 8).filter (wordLegal .cal)).length = 8 ∧
      ((List.range 64).filter (wordLegal .dsm)).length = 30 ∧ ((List.range 32).filter (wordLegal .pol)).length = 24 := by
  decide

/-! ### Decoding: a word of every row (30_encoding.md R80 to R83; the words of 95_test_vectors.md) -/

theorem test_decode_capAlignExit : decode .ph 0b0000 = .ok .capAlignExit := by decide
theorem test_decode_capAlignWait : decode .ph 0b0001 = .ok .capAlignWait := by decide
theorem test_decode_capArmWait : decode .ph 0b0010 = .ok .capArmWait := by decide
theorem test_decode_capArmStart : decode .ph 0b0011 = .ok .capArmStart := by decide
theorem test_decode_capMeasEnd : decode .ph 0b0100 = .ok .capMeasEnd := by decide
theorem test_decode_capMeasCount : decode .ph 0b0101 = .ok .capMeasCount := by decide
theorem test_decode_loopCompute : decode .ph 0b0110 = .ok .loopCompute := by decide
theorem test_decode_emitHold : decode .ph 0b1000 = .ok .emitHold := by decide
theorem test_decode_emitEnd : decode .ph 0b1001 = .ok .emitEnd := by decide
theorem test_decode_calHold : decode .cal 0b011 = .ok .calHold := by decide
theorem test_decode_calSettle : decode .cal 0b100 = .ok .calSettle := by decide
theorem test_decode_calAcc : decode .cal 0b101 = .ok .calAcc := by decide
theorem test_decode_calDone : decode .cal 0b111 = .ok .calDone := by decide
theorem test_decode_dsmIdleStay : decode .dsm 0b001001 = .ok .dsmIdleStay := by decide
theorem test_decode_dsmIdleFwd : decode .dsm 0b001010 = .ok .dsmIdleFwd := by decide
theorem test_decode_dsmIdleRev : decode .dsm 0b001101 = .ok .dsmIdleRev := by decide
theorem test_decode_dsmRevWait : decode .dsm 0b010000 = .ok .dsmRevWait := by decide
theorem test_decode_dsmRevIdle : decode .dsm 0b010001 = .ok .dsmRevIdle := by decide
theorem test_decode_dsmRevFwd : decode .dsm 0b010010 = .ok .dsmRevFwd := by decide
theorem test_decode_dsmRevKeep : decode .dsm 0b010101 = .ok .dsmRevKeep := by decide
theorem test_decode_dsmFwdWait : decode .dsm 0b011000 = .ok .dsmFwdWait := by decide
theorem test_decode_dsmFwdStop : decode .dsm 0b011001 = .ok .dsmFwdStop := by decide
theorem test_decode_dsmFwdKeep : decode .dsm 0b011011 = .ok .dsmFwdKeep := by decide
theorem test_decode_dsmFwdBrk : decode .dsm 0b011100 = .ok .dsmFwdBrk := by decide
theorem test_decode_dsmStopStay : decode .dsm 0b100001 = .ok .dsmStopStay := by decide
theorem test_decode_dsmStopFwd : decode .dsm 0b100010 = .ok .dsmStopFwd := by decide
theorem test_decode_dsmStopBrk : decode .dsm 0b100100 = .ok .dsmStopBrk := by decide
theorem test_decode_dsmBrkWait : decode .dsm 0b101000 = .ok .dsmBrkWait := by decide
theorem test_decode_dsmBrkIdle : decode .dsm 0b101001 = .ok .dsmBrkIdle := by decide
theorem test_decode_dsmBrkFwd : decode .dsm 0b101010 = .ok .dsmBrkFwd := by decide
theorem test_decode_dsmBrkKeep : decode .dsm 0b101101 = .ok .dsmBrkKeep := by decide
theorem test_decode_polSync : decode .pol 0b00001 = .ok .polSync := by decide
theorem test_decode_polPassIdle : decode .pol 0b00101 = .ok .polPassIdle := by decide
theorem test_decode_polRev : decode .pol 0b01001 = .ok .polRev := by decide
theorem test_decode_polFwdCap : decode .pol 0b01101 = .ok .polFwdCap := by decide
theorem test_decode_polFwdLockout : decode .pol 0b01110 = .ok .polFwdLockout := by decide
theorem test_decode_polFwdBurst : decode .pol 0b01111 = .ok .polFwdBurst := by decide
theorem test_decode_polPassStop : decode .pol 0b10000 = .ok .polPassStop := by decide
theorem test_decode_polPassBrk : decode .pol 0b10101 = .ok .polPassBrk := by decide
theorem test_decode_durInc : decode .u 0 = .ok .durInc := by decide

/-- A reserved word is rejected by name (30_encoding.md R84). -/
theorem test_decode_reserved :
    decode .ph 0b1010 = .error (.illegalCode .ph 0b1010) ∧ decode .dsm 0b000000 = .error (.illegalCode .dsm 0) ∧
      decode .pol 0b11001 = .error (.illegalCode .pol 0b11001) ∧ decode .cal 8 = .error (.tooWide .cal 8) := by decide

/-- The words of the table read by their widths (log 7). -/
theorem test_decodeTableWord :
    decodeTableWord 4 0x06 = some .loopCompute ∧ decodeTableWord 3 0x04 = some .calSettle ∧
      decodeTableWord 6 0x19 = some .dsmFwdStop ∧ decodeTableWord 5 0x0E = some .polFwdLockout ∧
      decodeTableWord 0 0 = some .durInc := by decide

/-! ### Conversions (95_test_vectors.md sections 2 and 3, profile `TT`) -/

theorem test_conv : conv T1 1 = 0 ∧ conv T1 2399 = 1499 ∧ conv T1 2401 = 1500 ∧ conv T1 26214 = 16383 ∧ conv T1 26215 = 16384 := by
  decide

theorem test_emitCount :
    emitCount T1 0 = 1 ∧ emitCount T1 1 = 3 ∧ emitCount T1 1500 = 3001 ∧ emitCount T1 17883 = 35767 ∧
      emitCount { T1 with fClkHz := 16000000, emitCpl := 7 } 1500 = 3429 := by decide

/-! ### One operation, one step -/

/-- A state about to classify. -/
def computing (S : DrivingState) (D : Nat) (OFF B : Int) (raw : Nat) : State :=
  { State.reset with PHASE := .compute, S := S, D := D, OFF := OFF, B := B, RAWQ := raw }

/-- What a vector of 95_test_vectors.md shows of an iteration: `S'`, `D'` after `DUR.INC`, `OFF'`, `B'`, the emission count
(`2 * out + 1` under `TT`), `IND`, `REAR`. -/
structure Shown where
  S : DrivingState
  D : Nat
  OFF : Int
  B : Int
  ECNT : Int
  IND : Indicator
  REAR : Level
deriving DecidableEq, Repr

/-- What `LOOP.COMPUTE` and the end-of-loop increment show. -/
def shown (p : Params) (s : State) : Option Shown :=
  match loopCompute p s with
  | .next t => some ⟨t.S, (t.countDuration p).D, t.OFF, t.B, t.ECNT, t.IND, t.REAR⟩
  | .fault _ => none
  | .refused _ => none

/-- The fault of an operation. -/
def faultOf (r : Result) : Option Fault :=
  match r with
  | .next _ => none
  | .fault f => some f
  | .refused _ => none

/-- One field of the next state. -/
def fieldOf {α : Type} (f : State → α) (r : Result) : Option α :=
  match r with
  | .next t => some (f t)
  | .fault _ => none
  | .refused _ => none

/-- A state of the capture or emission phases with one level lined up. -/
def sampling (phase : Phase) (NCNT : Nat) (ECNT : Int) (level : Level) : State :=
  { State.reset with PHASE := phase, NCNT := NCNT, ECNT := ECNT, ppmOut := decide (phase = .emit), stimulus := [⟨none, level⟩] }

/-- V1. -/
theorem test_step_alignWait : fieldOf State.PHASE (step (sampling .align 0 0 true)) = some .align := by decide
/-- V2. -/
theorem test_step_alignExit : fieldOf State.PHASE (step (sampling .align 0 0 false)) = some .arm := by decide
/-- V3. -/
theorem test_step_armWait : fieldOf State.PHASE (step (sampling .arm 0 0 false)) = some .arm := by decide
/-- V4. -/
theorem test_step_armStart : fieldOf (fun t => (t.PHASE, t.NCNT)) (step (sampling .arm 7 0 true)) = some (.measure, 1) := by decide
/-- V5. -/
theorem test_step_measCount :
    fieldOf (fun t => (t.PHASE, t.NCNT)) (step (sampling .measure 2399 0 true)) = some (.measure, 2400) := by decide
/-- V6, V8. -/
theorem test_measEnd :
    fieldOf (fun t => (t.PHASE, t.RAWQ, t.rawStrobe)) (measureEnd T1 (sampling .measure 2400 0 false)) =
        some (.compute, 1500, true) ∧
      fieldOf State.RAWQ (measureEnd T1 (sampling .measure 26213 0 false)) = some 16383 := by decide
/-- V9. -/
theorem test_measEnd_fault :
    faultOf (measureEnd T1 (sampling .measure 26215 0 false)) = some (.captureRange 26215) := by decide
/-- The example of 41_emission.md R123. -/
theorem test_step_emitHold :
    fieldOf (fun t => (t.PHASE, t.ECNT, t.ppmOut)) (step (sampling .emit 0 3001 true)) = some (.emit, 3000, true) := by decide
/-- The example of 41_emission.md R124. -/
theorem test_step_emitEnd :
    fieldOf (fun t => (t.PHASE, t.ECNT, t.ppmOut, t.D)) (step (sampling .emit 0 1 true)) = some (.align, 0, false, 1) := by decide
/-- The examples of 45_loop.md R225. -/
theorem test_durInc :
    fieldOf State.D (exec .durInc { State.reset with D := 0 }) = some 1 ∧
      fieldOf State.D (exec .durInc { State.reset with D := 255 }) = some 255 := by decide
/-- Reset in the middle of an emission (70_reset_and_hazards.md R270). -/
theorem test_step_reset :
    fieldOf (fun t => (t.PHASE, t.ECNT, t.ppmOut, t.IND))
      (step { sampling .emit 0 9 true with IND := .off, stimulus := [⟨some 0, true⟩] }) = some (.align, 0, false, .syncing) := by
  decide

/-- V26. -/
theorem test_calHold_zero : shown T1 (computing .centering 0 0 0 3001) =
    some ⟨.centering, 1, 0, 0, 6003, .syncing, false⟩ := by decide
/-- V33: plausibility is tested first. -/
theorem test_calHold_upper : shown T1 (computing .centering 20 300 0 4000) =
    some ⟨.centering, 20, 300, 0, 8001, .syncing, false⟩ := by decide
/-- V29. -/
theorem test_calSettle_boundary : shown T1 (computing .centering 2 0 0 0) =
    some ⟨.centering, 3, 0, 0, 1, .syncing, false⟩ := by decide
/-- V30. -/
theorem test_calSettle_nine : shown T1 (computing .centering 9 0 0 1530) =
    some ⟨.centering, 10, 0, 0, 3061, .syncing, false⟩ := by decide
/-- V31. -/
theorem test_calAcc_ten : shown T1 (computing .centering 10 0 0 1530) =
    some ⟨.centering, 11, 30, 0, 3061, .syncing, false⟩ := by decide
/-- the example of 42_calibration.md R146. -/
theorem test_calAcc_signed : shown T1 (computing .centering 12 (-60) 0 1470) =
    some ⟨.centering, 13, -90, 0, 2941, .syncing, false⟩ := by decide
/-- V34: the sample is not accumulated. -/
theorem test_calDone : shown T1 (computing .centering 20 300 0 1700) =
    some ⟨.idle, 1, 30, 0, 3401, .off, false⟩ := by decide
/-- V25. -/
theorem test_calDone_truncates : shown T1 (computing .centering 20 (-39) 0 1500) =
    some ⟨.idle, 1, -3, 0, 3001, .off, false⟩ := by decide
/-- V50, V94. -/
theorem test_idleFwd : shown T1 (computing .idle 7 0 0 1540) =
    some ⟨.forward, 1, 0, 1, 3033, .limited, false⟩ := by decide
/-- V51, V87. -/
theorem test_idleRev : shown T1 (computing .idle 7 0 2 1460) =
    some ⟨.reverse, 1, 0, 1, 2949, .limited, true⟩ := by decide
/-- V53, V83. -/
theorem test_idleStay : shown T1 (computing .idle 7 0 0 1461) =
    some ⟨.idle, 8, 0, 0, 2923, .off, false⟩ := by decide
/-- V73. -/
theorem test_idleStay_offset : shown T1 (computing .idle 5 30 0 1569) =
    some ⟨.idle, 6, 30, 0, 3079, .off, false⟩ := by decide
/-- V55. -/
theorem test_revFwd : shown T1 (computing .reverse 1 0 0 1540) =
    some ⟨.forward, 1, 0, 1, 3033, .limited, false⟩ := by decide
/-- V90: a positive near-centre width. -/
theorem test_revWait : shown T1 (computing .reverse 3 0 0 1539) =
    some ⟨.reverse, 4, 0, 0, 3053, .limited, true⟩ := by decide
/-- V58. -/
theorem test_revIdle : shown T1 (computing .reverse 4 0 0 1539) =
    some ⟨.idle, 1, 0, 0, 3079, .off, false⟩ := by decide
/-- V59, V86. -/
theorem test_revKeep : shown T1 (computing .reverse 9 0 0 1400) =
    some ⟨.reverse, 10, 0, 0, 2869, .limited, true⟩ := by decide
/-- V91. -/
theorem test_revKeep_half : shown T2 (computing .reverse 9 0 0 1351) =
    some ⟨.reverse, 10, 0, 0, 2853, .limited, true⟩ := by decide
/-- V60. -/
theorem test_fwdBrk : shown T1 (computing .forward 3 0 1 1460) =
    some ⟨.braking, 1, 0, 0, 2921, .off, true⟩ := by decide
/-- V61, V95. -/
theorem test_fwdWait : shown T1 (computing .forward 3 0 1 1461) =
    some ⟨.forward, 4, 0, 2, 2971, .limited, false⟩ := by decide
/-- V62. -/
theorem test_fwdStop : shown T1 (computing .forward 4 0 1 1461) =
    some ⟨.stopped, 1, 0, 0, 2923, .off, false⟩ := by decide
/-- V64, V104. -/
theorem test_fwdKeep : shown T1 (computing .forward 9 0 14 1600) =
    some ⟨.forward, 10, 0, 30, 3081, .limited, false⟩ := by decide
/-- V65. -/
theorem test_stopFwd : shown T1 (computing .stopped 2 0 0 1540) =
    some ⟨.forward, 1, 0, 1, 3033, .limited, false⟩ := by decide
/-- V66. -/
theorem test_stopBrk : shown T1 (computing .stopped 2 0 0 1460) =
    some ⟨.braking, 1, 0, 0, 2921, .off, true⟩ := by decide
/-- V67, V84. -/
theorem test_stopStay : shown T1 (computing .stopped 50 0 30 1520) =
    some ⟨.stopped, 51, 0, 29, 3041, .off, false⟩ := by decide
/-- V68. -/
theorem test_brkFwd : shown T1 (computing .braking 1 0 0 1540) =
    some ⟨.forward, 1, 0, 1, 3033, .limited, false⟩ := by decide
/-- V69. -/
theorem test_brkWait : shown T1 (computing .braking 3 0 0 1500) =
    some ⟨.braking, 4, 0, 0, 3001, .off, true⟩ := by decide
/-- V70. -/
theorem test_brkIdle : shown T1 (computing .braking 4 0 0 1500) =
    some ⟨.idle, 1, 0, 0, 3001, .off, false⟩ := by decide
/-- V71, V85. -/
theorem test_brkKeep : shown T1 (computing .braking 6 0 5 1100) =
    some ⟨.braking, 7, 0, 4, 2201, .off, true⟩ := by decide
/-- V99. -/
theorem test_fwdBurst_equal : shown T1 (computing .forward 9 0 5 1800) =
    some ⟨.forward, 10, 0, 6, 3601, .off, false⟩ := by decide
/-- V101. -/
theorem test_fwdBurst_locks : shown T1 (computing .forward 9 0 14 2000) =
    some ⟨.forward, 10, 0, 30, 4001, .off, false⟩ := by decide
/-- V103. -/
theorem test_fwdLockout : shown T1 (computing .forward 9 0 15 2000) =
    some ⟨.forward, 10, 0, 30, 3401, .limited, false⟩ := by decide
/-- V98. -/
theorem test_fwdCap_below : shown T1 (computing .forward 9 0 4 1799) =
    some ⟨.forward, 10, 0, 5, 3239, .limited, false⟩ := by decide
/-- V109. -/
theorem test_fwdCap_T2 : shown T2 (computing .forward 9 0 0 1899) =
    some ⟨.forward, 10, 0, 1, 3319, .limited, false⟩ := by decide
/-- V46. -/
theorem test_largest_output : shown T1 (computing .idle 3 (-1500) 0 16383) =
    some ⟨.forward, 1, -1500, 1, 35767, .off, false⟩ := by decide
/-- V47: the reverse scaling, then the fault. -/
theorem test_emitRange : faultOf (loopCompute T1 (computing .reverse 1 1500 0 0)) = some (.emitRange (-500)) := by decide

/-- V43, on the iteration function. -/
theorem test_iterate_idleFwd : iterate T1 ⟨.idle, 5, 0, 0⟩ 1600 =
    .ok ⟨1600, 100, .dsmIdleFwd, .polFwdCap, 40, 1540, .limited, false, ⟨.forward, 1, 0, 1⟩⟩ := by decide
/-- V45. -/
theorem test_iterate_captureRange : iterate T1 ⟨.idle, 3, 0, 0⟩ 16384 = .error (.captureRange 16384) := by decide
/-- V48. -/
theorem test_iterate_emitRange : iterate T1 ⟨.idle, 1, 1500, 0⟩ 100 = .error (.emitRange (-433)) := by decide
/-- V24: a noisy neutral. -/
theorem test_calibrate_noisy :
    (runStimulus T1 Regs.reset (pulses 1500 10 ++
      ([1510, 1490, 1525, 1475, 1507, 1493, 1512, 1488, 1531, 1499].map .pulse) ++ pulses 1500 2)).2 =
      .ok ⟨.idle, 2, 3, 0⟩ := by decide
/-- P3, its end state and the outputs of iterations 22 to 38. -/
theorem test_P3 :
    (runStimulus T1 ⟨.idle, 1, 0, 0⟩ (([1540, 1461, 1539, 1460].map .pulse) ++ pulses 1500 4 ++
      ([1460, 1400, 1350, 1461].map .pulse) ++ pulses 1500 4 ++ pulses 1540 1)).1.map (fun it => it.out) =
      [1516, 1485, 1515, 1460, 1500, 1500, 1500, 1500, 1474, 1434, 1400, 1474, 1500, 1500, 1500, 1500, 1516] := by decide

/-! ### Observation -/

/-- P4: the line of the iteration that `LOOP.COMPUTE` computes for a raw width of 1600. -/
theorem test_computedLine_P4 :
    computedLine T1 (computing .idle 1 0 0 1600) =
      some { raw := 1600, w := 100, classOp := .dsmIdleFwd, polOp := .polFwdCap, v := 40, out := 1540
             IND := .limited, REAR := false, regs := ⟨.forward, 0, 0, 1⟩ } := by decide

/-- `raw_strobe` is high in the first cycle of the step after `CAP.MEAS.END` and in no later one (40_capture.md R107). -/
theorem test_strobe_one_cycle :
    ([0, 1, 2].map fun k => (portsInCycle T1 { computing .idle 1 0 0 1600 with rawStrobe := true } k).rawStrobe) =
        [true, false, false] ∧
      (({ computing .idle 1 0 0 1600 with rawStrobe := true } : State).lowerStrobe 3).rawStrobe = false ∧
      (({ computing .idle 1 0 0 1600 with rawStrobe := true } : State).lowerStrobe 0).rawStrobe = true := ⟨rfl, rfl, rfl⟩

/-- The three codes of 30_encoding.md R72 on the port `ind`, and the reset value. -/
theorem test_indicator_codes :
    ([.off, .limited, .syncing].map fun i => ({ State.reset with IND := i } : State).ports.ind) = [0b00#2, 0b01#2, 0b10#2] ∧
      State.reset.ports.ind = 0b10#2 := by decide

/-- The codes of the three faults (60_exceptions.md R241 to R243). -/
theorem test_fault_codes :
    (Fault.captureRange 26215).code = 1 ∧ (Fault.emitRange (-1)).code = 2 ∧ (Fault.illegalCode .dsm 0).code = 3 := by decide

/-- A fault keeps the trace of the iteration completed before it and adds nothing of its own (60_exceptions.md R249). -/
theorem test_observe_fault (pending : Option Iteration) :
    observe 3 pending { computing .braking 0 1 0 0 with stimulus := levels true 1 } =
      ⟨[], [], .fault (.emitRange (-1))⟩ := rfl

/-- A reset one clock edge into an emission quantum: `ppm_out` is high for the cycle before it and low in the cycle it begins, the next
step starts two cycles on, and the iteration is not completed (70_reset_and_hazards.md R270). -/
theorem test_reset_inside_quantum (pending : Option Iteration) :
    let s : State := { sampling .emit 0 1 true with REAR := true, stimulus := [⟨some 1, true⟩] }
    (stepCycles s).map (fun c => (c.ppmOut, c.rearEn)) = [(true, true), (false, false)] ∧
      fieldOf (fun t => (t.PHASE, t.D, t.clk)) (step s) = some (.align, 0, 2) ∧
      (observe 1 pending s).iterations = [] := by
  intro s
  have h : s.resetEdge = some 1 :=
    State.resetEdge_eq_some.2 ⟨rfl, phaseCycles_pos (ph := .emit) (by decide)⟩
  refine ⟨by rw [stepCycles_reset h]; rfl, by rw [step_reset h]; rfl, ?_⟩
  rw [observe_next 0 pending (step_reset h)]
  simp [completed, State.rstAsserted, h]

/-- A reset at the edge that ends the quantum of a `CAP.MEAS.END`, and one inside a `LOOP.COMPUTE`: neither faults, though each operation
would (70_reset_and_hazards.md R270: "at any time, in any phase"). -/
theorem test_reset_before_fault (n : Nat) :
    fieldOf State.PHASE
        (step { sampling .measure n 0 false with stimulus := [⟨some Config.params.capCpl, false⟩] }) = some .align ∧
      fieldOf State.PHASE (step { computing .braking 0 1 0 0 with stimulus := [⟨some 0, true⟩] }) = some .align := by
  constructor
  · rw [step_reset (State.resetEdge_eq_some.2 ⟨rfl, le_refl _⟩)]
    rfl
  · rw [step_reset (State.resetEdge_eq_some.2 ⟨rfl, Nat.zero_le _⟩)]
    rfl

/-- The lights in the cycles of a `LOOP.COMPUTE`: up to the last they may be old, and in the last they are new
(20_memory.md R60, 44_scaling.md R212). -/
theorem test_lights_new_by_the_last_cycle :
    ((computing .idle 1 0 0 1400).lights { T1 with tProc := 3 } 2).REAR = true ∧
      ((computing .idle 1 0 0 1400).lights { T1 with tProc := 3 } 2).IND = .limited := by
  have h : (computing .idle 1 0 0 1400).indicatorCycle { T1 with tProc := 3 } ≤ 2 := Nat.min_le_right _ _
  rw [State.lights, if_pos ⟨rfl, h⟩]
  decide

/-! ### The interface -/

/-- With a word stored, the very next step runs its operation (log 8). -/
theorem test_withFetchWord_ph :
    (State.reset.withFetchWord 4 0x05).phWord.toNat = 0x05 ∧ (State.reset.withFetchWord 4 0x06).phWord.toNat = 0x06 ∧
      (State.reset.withFetchWord 4 0x09).phWord.toNat = 0x09 := by decide

/-- The calibration or state-machine operation that the next `LOOP.COMPUTE` runs. -/
def nextClassify (s : State) : Option Instr :=
  match (s.latchWidth s.correctedWidth).fetchClassify with
  | .ok i => some i
  | .error _ => none

theorem test_withFetchWord_cal :
    ∀ w ∈ [0b000, 0b100, 0b101, 0b110], nextClassify (State.reset.withFetchWord 3 w) = decodeTableWord 3 w := by decide

theorem test_withFetchWord_dsm :
    ∀ w ∈ [0b001000, 0b001010, 0b001100, 0b010000, 0b010001, 0b010010, 0b010100, 0b011000, 0b011001, 0b011010, 0b011100,
        0b100000, 0b100010, 0b100100, 0b101000, 0b101001, 0b101010, 0b101100],
      nextClassify (State.reset.withFetchWord 6 w) = decodeTableWord 6 w := by decide

/-! ### Witnesses: for each statement with hypotheses, a state and operands that meet them -/

/-- WordSelectsTheRowItMatches: the largest word that fits. -/
theorem test_witness_wordSelects : (0b11111 : Nat) < 2 ^ Format.pol.width ∧ (0b001001 : Nat) < 2 ^ Format.dsm.width := by decide

/-- ReservedWordsAreIllegalCodes: the last legal, the first reserved and the first too wide `PH` word. -/
theorem test_witness_reserved :
    wordLegal .ph 0b1001 = true ∧ (0b1010 < 2 ^ Format.ph.width ∧ wordLegal .ph 0b1010 = false) ∧
      2 ^ Format.ph.width ≤ 16 := by decide

/-- QuotTruncatesTowardZero: a dividend of 0 and of -1. -/
theorem test_witness_quot : (0 : Int) < 5 ∧ (0 : Int) ≤ 0 ∧ (-1 : Int) < 0 ∧ quot 0 5 = 0 ∧ quot (-1) 5 = 0 := by decide

/-- ScaleReducesSymmetrically: both signs, at the fraction 2/2. -/
theorem test_witness_scale :
    (0 : Int) ≤ 2 ∧ (2 : Int) ≤ 2 ∧ (0 : Int) < 2 ∧ scale 7 2 2 = 7 ∧ scale (-7) 2 2 = -7 ∧ scale 0 2 2 = 0 := by decide

/-- EmitCountIsLongerByAtMostOneQuantum: a width of 0 and the largest. -/
theorem test_witness_emitCount : T1.wf = true ∧ (0 : Int) ≤ 0 ∧ (0 : Int) ≤ 17883 := by decide

/-- RoundTripWithinQuantisation: both counts of X5. -/
theorem test_witness_roundTrip :
    T1.wf = true ∧ ∀ n ∈ [2400, 2401],
      emitCount T1 1500 * T1.emitCpl - T1.capCpl < (n : Int) * T1.capCpl ∧
        (n : Int) * T1.capCpl < emitCount T1 1500 * T1.emitCpl + T1.capCpl := by decide

/-- ResetFromAnyState: the edge that begins a step, the one that ends it, and one past its end, which is none of this step's. -/
theorem test_witness_reset :
    ({ sampling .measure 5 0 true with stimulus := [⟨some 0, true⟩] } : State).resetEdge = some 0 ∧
      ({ sampling .measure 5 0 true with stimulus := [⟨some Config.params.capCpl, true⟩] } : State).resetEdge =
        some Config.params.capCpl ∧
      ({ sampling .measure 5 0 true with stimulus := [⟨some (Config.params.capCpl + 1), true⟩] } : State).resetEdge ≠
        some (Config.params.capCpl + 1) :=
  ⟨State.resetEdge_eq_some.2 ⟨rfl, Nat.zero_le _⟩, State.resetEdge_eq_some.2 ⟨rfl, le_refl _⟩,
    fun h => Nat.not_succ_le_self _ (State.resetEdge_eq_some.1 h).2⟩

/-- MeasureEndPresentsTheWidth: a count that reads as 0 µs and one that is too large under any clock. -/
theorem test_witness_measureEnd :
    (0 * Config.params.capCpl * 1000000 / Config.params.fClkHz ≤ 16383) ∧
      16383 < 16384 * Config.params.fClkHz * Config.params.capCpl * 1000000 / Config.params.fClkHz := by
  obtain ⟨-, -, -, -, -, hf, hc, -⟩ := Config.params_bounds
  refine ⟨by simp, ?_⟩
  rw [show 16384 * Config.params.fClkHz * Config.params.capCpl * 1000000 =
    16384 * 1000000 * Config.params.capCpl * Config.params.fClkHz by ring, Nat.mul_div_cancel _ hf]
  omega

/-- ScalingPolicies: the counter that locks and the one that does not. -/
theorem test_witness_policies :
    (∃ up : Int, up = if (Config.params.maxBurst : Int) ≤ (Config.params.maxBurst - 1 : Int) + 1 then
        2 * (Config.params.maxBurst : Int) else (Config.params.maxBurst - 1 : Int) + 1) ∧
      ∃ up : Int, up = if (Config.params.maxBurst : Int) ≤ -1 + 1 then 2 * (Config.params.maxBurst : Int) else -1 + 1 :=
  ⟨⟨_, rfl⟩, _, rfl⟩

/-- LoopComputeRunsTheDecodedOperations: an output of exactly 0 that completes, and one of -1 that does not; a state in
`Centering` and one outside. -/
theorem test_witness_loopCompute :
    (∃ t, exec .loopCompute (computing .centering 0 0 0 0) = .next t ∧ t.ECNT = emitCount Config.params 0) ∧
      exec .loopCompute (computing .braking 0 1 0 0) = .fault (.emitRange (-1)) := ⟨⟨_, rfl, rfl⟩, rfl⟩

/-- CenteringIteration: each clause at both ends of its range. -/
theorem test_witness_centering :
    (computing .centering 0 0 0 3001).S = .centering ∧ 3000 < (computing .centering 0 0 0 3001).RAWQ ∧
      (∀ D ∈ [0, 9], (computing .centering D 0 0 3000).RAWQ ≤ 3000 ∧ (computing .centering D 0 0 3000).D < 10) ∧
      (∀ D ∈ [10, 19], 10 ≤ (computing .centering D 0 0 0).D ∧ (computing .centering D 0 0 0).D < 20) ∧
      20 ≤ (computing .centering 20 0 0 0).D := by decide

/-- A reverse scaling by any legal fraction of a width of -40 leaves a positive output. -/
theorem reverse_completes (D : Nat) :
    ∃ t, exec .loopCompute (computing .idle D 0 0 1460) = .next t ∧ t.S = .reverse := by
  obtain ⟨-, -, h1, h2, h3, -⟩ := Config.params_bounds
  have h := quot_nonpos_bounds (a := -40 * Config.params.revNum) (b := Config.params.revDen) (by omega) (by omega)
  show ∃ t, emitStart Config.params (quot (-40 * Config.params.revNum) Config.params.revDen + 1500) _ = _ ∧ _
  rcases emitStart_cases Config.params (quot (-40 * Config.params.revNum) Config.params.revDen + 1500)
    (({ computing .idle D 0 0 1460 with
        S := .reverse, D := 0, w := -40, B := 0, IND := .limited
        v := quot (-40 * Config.params.revNum) Config.params.revDen } : State).presentRear.discardTransients) with h' | h'
  · exact ⟨_, h'.2, rfl⟩
  · omega

/-- A full command with the allowance untouched is passed through. -/
theorem burst_completes :
    ∃ t, exec .loopCompute (computing .idle 0 0 0 (1500 + max 40 Config.params.fwdFull).toNat) = .next t ∧
      t.S = .forward := by
  obtain ⟨hb, -⟩ := Config.params_bounds
  generalize hw : max 40 Config.params.fwdFull = w
  have h40 : 40 ≤ w := by omega
  have hf : Config.params.fwdFull ≤ w := by omega
  have h1 : ¬ w ≤ -40 := by omega
  have h2 : 0 < Config.params.maxBurst := by omega
  have hcw : (computing .idle 0 0 0 (1500 + w).toNat).correctedWidth = w := by
    simp [State.correctedWidth, computing]
    omega
  obtain ⟨i, j, c, d, e1, e2, e3, e4, e5⟩ :=
    loopCompute_cases Config.params (computing .idle 0 0 0 (1500 + w).toNat)
  rw [hcw] at e1 e2
  have hcl : widthClass w = .pos := by simp [widthClass, h1, h40]
  simp [State.fetchClassify, computing, State.dsmWord, decodeDsm, hcl] at e1
  subst e1
  simp only [classify, Option.some.injEq] at e2
  subst e2
  simp [dsmIdleFwd, State.polWord, decodePol, full, avail, hf, h2, computing, State.reset] at e3
  subst e3
  simp only [policy, Option.some.injEq] at e4
  subst e4
  rcases emitStart_cases Config.params _ _ with h' | h'
  · exact ⟨_, e5.trans h'.2, rfl⟩
  · have h3 := h'.1
    simp [State.outWidth, polFwdBurst, dsmIdleFwd] at h3
    omega

/-- DrivingTable: each clause at the ends of its range, dwells of 3 and 4. -/
theorem test_witness_driving :
    (∃ t, exec .loopCompute (computing .idle 0 0 0 1460) = .next t) ∧
      (∃ t, exec .loopCompute (computing .forward 9 0 0 1460) = .next t) ∧
      (∃ t, exec .loopCompute (computing .idle 3 0 0 1539) = .next t) ∧
      (∃ t, exec .loopCompute (computing .forward 4 0 0 1461) = .next t) ∧
      (∃ t, exec .loopCompute (computing .reverse 4 0 0 1539) = .next t) ∧
      ∃ t, exec .loopCompute (computing .idle 0 0 0 (1500 + max 40 Config.params.fwdFull).toNat) = .next t :=
  ⟨(reverse_completes 0).imp fun _ h => h.1, ⟨_, rfl⟩, ⟨_, rfl⟩, ⟨_, rfl⟩, ⟨_, rfl⟩, burst_completes.imp fun _ h => h.1⟩

/-- NearCentreNeedsTheDwell: widths of 39 and -39, dwells of 3 and 4, in every state. -/
theorem test_witness_nearCentre :
    ∀ S ∈ [DrivingState.idle, .reverse, .forward, .stopped, .braking], ∀ D ∈ [3, 4], ∀ raw ∈ [1461, 1539],
      (computing S D 0 0 raw).S ≠ .centering ∧ -40 < ((computing S D 0 0 raw).RAWQ : Int) - 1500 - 0 ∧
        ((computing S D 0 0 raw).RAWQ : Int) - 1500 - 0 < 40 := by decide

/-- PolicyOfTheNewState: an iteration that ends in `Centering`, `Idle`, `Stopped`, `Braking`, `Reverse` and, under a full command
with the allowance untouched, `Forward`. -/
theorem test_witness_policy :
    (∃ t, exec .loopCompute (computing .centering 19 0 0 1500) = .next t ∧ t.S = .centering) ∧
      (∃ t, exec .loopCompute (computing .centering 20 0 0 1500) = .next t ∧ t.S = .idle) ∧
      (∃ t, exec .loopCompute (computing .forward 4 0 0 1500) = .next t ∧ t.S = .stopped) ∧
      (∃ t, exec .loopCompute (computing .forward 4 0 0 1460) = .next t ∧ t.S = .braking) ∧
      (∃ t, exec .loopCompute (computing .idle 4 0 0 1460) = .next t ∧ t.S = .reverse) ∧
      (∃ t, exec .loopCompute (computing .idle 0 0 0 (1500 + max 40 Config.params.fwdFull).toNat) = .next t ∧
        t.S = .forward) ∧
      Config.params.fwdFull ≤ max 40 Config.params.fwdFull ∧ (0 : Int) < Config.params.maxBurst :=
  ⟨⟨_, rfl, rfl⟩, ⟨_, rfl, rfl⟩, ⟨_, rfl, rfl⟩, ⟨_, rfl, rfl⟩, reverse_completes 4, burst_completes, le_max_right _ _,
    by have := Config.params_bounds.1; omega⟩

/-- LoopComputeCompletesAboveTheOffset: a raw width equal to the offset, and one below it in each of the three states. -/
theorem test_witness_aboveTheOffset :
    (computing .idle 0 1500 0 1500).OFF ≤ ((computing .idle 0 1500 0 1500).RAWQ : Int) ∧
      ∀ S ∈ [DrivingState.forward, .stopped, .braking],
        (S = .forward ∨ S = .stopped ∨ S = .braking) ∧
          ((computing S 0 1500 0 1499).RAWQ : Int) < (computing S 0 1500 0 1499).OFF := by decide

/-- LoopComputeAgreesWithIterate: the largest raw width, an iteration that completes and one that faults. -/
theorem test_witness_agrees :
    (computing .centering 0 0 0 16383).RAWQ ≤ 16383 ∧
      (∃ it, iterate Config.params (computing .centering 0 0 0 16383).regs 16383 = .ok it) ∧
      iterate Config.params (computing .braking 0 1 0 0).regs 0 = .error (.emitRange (-1)) := ⟨le_refl _, ⟨_, rfl⟩, rfl⟩

/-- StepRunsTheDecodedOperation: a step that goes on and one that faults. -/
theorem test_witness_step :
    (sampling .arm 0 0 true).rstAsserted = false ∧ decode .ph (sampling .arm 0 0 true).phWord.toNat = .ok .capArmStart ∧
      (∃ t, exec .capArmStart ((sampling .arm 0 0 true).lowerStrobe Config.params.capCpl) = .next t) ∧
      exec .loopCompute ((computing .braking 0 1 0 0).lowerStrobe Config.params.tProc) = .fault (.emitRange (-1)) :=
  ⟨rfl, rfl, ⟨_, rfl⟩, rfl⟩

/-- The step that ends a measurement whose width is in range. -/
theorem measEnd_next (s : State) (hr : s.rstAsserted = false) (ho : s.phOp = .capMeasEnd)
    (hc : conv Config.params s.NCNT ≤ 16383) : ∃ t, step s = .next t := by
  rw [step_run hr, ho]
  rcases measureEnd_cases Config.params (s.lowerStrobe (phaseCycles Config.params s.PHASE)) with ⟨-, h⟩ | ⟨h, -⟩
  · exact ⟨_, closeStep_next.2 ⟨_, h, rfl⟩⟩
  · exact absurd h (not_lt.2 hc)

/-- The step that ends a measurement whose width is out of range. -/
theorem measEnd_fault (n : Nat) (hc : 16383 < conv Config.params n) :
    step (sampling .measure n 0 false) = .fault (.captureRange n) := by
  have ho : (sampling .measure n 0 false).phOp = .capMeasEnd := rfl
  rw [step_run rfl, ho]
  rcases measureEnd_cases Config.params ((sampling .measure n 0 false).lowerStrobe Config.params.capCpl) with ⟨h, -⟩ | ⟨-, h⟩
  · exact absurd h (not_le.2 hc)
  · exact closeStep_fault.2 h

/-- A count that converts to more than `RAW_MAX` under any clock. -/
theorem conv_large : 16383 < conv Config.params (16384 * Config.params.fClkHz) := by
  obtain ⟨-, -, -, -, -, hf, hc, -⟩ := Config.params_bounds
  rw [conv, show Config.MICROS_PER_SECOND * (Config.params.capCpl * (16384 * Config.params.fClkHz)) =
    16384 * Config.MICROS_PER_SECOND * Config.params.capCpl * Config.params.fClkHz by ring, Nat.mul_div_cancel _ hf]
  simp only [Config.MICROS_PER_SECOND]
  omega

/-- A count of 0 converts to 0 µs under any clock. -/
theorem conv_zero : conv Config.params 0 ≤ 16383 := by
  rw [conv, Nat.mul_zero, Nat.mul_zero, Nat.zero_div]
  exact Nat.zero_le _

/-- PhaseMovesAsTheTable, CaptureTouchesNoOtherRegister, InputUnseenOutsideCapture, OffsetFrozenAfterCentering,
StateChangesOnlyAlongTheEdges: each of the nine moves is made by some step. -/
theorem test_witness_phases :
    (∃ t, step (sampling .align 0 0 true) = .next t) ∧ (∃ t, step (sampling .align 0 0 false) = .next t) ∧
      (∃ t, step (sampling .arm 0 0 false) = .next t) ∧ (∃ t, step (sampling .arm 0 0 true) = .next t) ∧
      (∃ t, step (sampling .measure 1 0 true) = .next t) ∧ (∃ t, step (sampling .measure 0 0 false) = .next t) ∧
      (∃ t, step { computing .stopped 0 0 0 1500 with stimulus := levels false 1 } = .next t) ∧
      (∃ t, step (sampling .emit 0 2 true) = .next t) ∧ ∃ t, step (sampling .emit 0 1 false) = .next t :=
  ⟨⟨_, rfl⟩, ⟨_, rfl⟩, ⟨_, rfl⟩, ⟨_, rfl⟩, ⟨_, rfl⟩, measEnd_next (sampling .measure 0 0 false) rfl rfl conv_zero, ⟨_, rfl⟩, ⟨_, rfl⟩, ⟨_, rfl⟩⟩

/-- StepStopsOnlyOutOfRange: both faults, the first at a count too large under any clock. -/
theorem test_witness_stops :
    step (sampling .measure (16384 * Config.params.fClkHz) 0 false) =
        .fault (.captureRange (16384 * Config.params.fClkHz)) ∧
      step { computing .braking 0 1 0 0 with stimulus := levels true 1 } = .fault (.emitRange (-1)) := by
  exact ⟨measEnd_fault _ conv_large, rfl⟩

/-- OffsetFrozenAfterCentering, second clause: a step that moves the offset. -/
theorem test_witness_offset :
    ∃ t, step { computing .centering 10 0 0 3000 with stimulus := levels false 1 } = .next t ∧ t.OFF = 1500 :=
  ⟨_, rfl, rfl⟩

/-- StaleTransientsAreNotRead: a step that goes on and one that faults. -/
theorem test_witness_transients :
    (∃ t, step (sampling .arm 0 0 true) = .next t) ∧
      step { computing .braking 0 1 0 0 with stimulus := levels true 1 } = .fault (.emitRange (-1)) := ⟨⟨_, rfl⟩, rfl⟩

/-- PortsShowTheRegisters, StepKeepsTheInvariant: a state with the invariant at the ends of its ranges, and its step. -/
theorem test_witness_invariant :
    State.Inv { State.reset with
        S := .braking, D := 255, OFF := -1500, B := Config.burstLock Config.params, PHASE := .emit, ECNT := 1, ppmOut := true
        REAR := true, IND := .off, RAWQ := 16383, stimulus := levels false 1 } ∧
      ∃ t, step { State.reset with
        S := .braking, D := 255, OFF := -1500, B := Config.burstLock Config.params, PHASE := .emit, ECNT := 1, ppmOut := true
        REAR := true, IND := .off, RAWQ := 16383, stimulus := levels false 1 } = .next t := by
  refine ⟨?_, _, rfl⟩
  constructor <;> simp [State.reset, Config.burstLock]

/-- BlockingHoldsTheState: no sample and three samples, in each phase. -/
theorem test_witness_blocking :
    ∀ n ∈ [0, 3], ∀ ph ∈ [Phase.align, .arm, .measure], ∀ level ∈ [true, false],
      ({ sampling ph 1 0 level with stimulus := levels level n ++ levels false 2 } : State).rawStrobe = false ∧
        ({ sampling ph 1 0 level with stimulus := levels level n ++ levels false 2 } : State).PHASE = ph := by decide

/-- CaptureMeasuresThePulse: a pulse of one sample. -/
theorem test_witness_capture :
    ({ sampling .arm 0 0 true with stimulus := levels true 1 ++ levels false 1 ++ [] } : State).PHASE = .arm ∧ 1 ≤ 1 :=
  ⟨rfl, le_refl _⟩

/-- EmissionLastsItsCount: one quantum and two. -/
theorem test_witness_emission :
    ∀ n ∈ [1, 2],
      (sampling .emit 0 (n : Nat) true).PHASE = .emit ∧ 1 ≤ (levels true n).length ∧
        (sampling .emit 0 (n : Nat) true).ECNT = (levels true n).length ∧ ∀ p ∈ levels true n, p.rst = none := by decide

/-- A list of released levels for the emission that an iteration asks for. -/
theorem held_for (r : Except Fault Iteration) (h : ∀ it, r = .ok it → 0 ≤ it.out) :
    ∃ n : Nat, 1 ≤ n ∧ ∀ it, r = .ok it → (n : Int) = 1 + emitCount Config.params it.out := by
  cases r with
  | error f => exact ⟨1, le_refl _, by simp⟩
  | ok it =>
    have := emitCount_pos Config.params (h it rfl)
    refine ⟨1 + (emitCount Config.params it.out).toNat, by omega, ?_⟩
    intro it' h'
    cases h'
    omega

/-- An iteration that completes has an output width that is not negative. -/
theorem iterate_out_nonneg {p : Params} {r : Regs} {raw : Nat} {it : Iteration} (h : iterate p r raw = .ok it) :
    0 ≤ it.out := by
  by_cases h1 : p.rawMax < raw
  · rw [iterate, if_pos h1] at h
    cases h
  · rw [iterate, if_neg h1] at h
    rcases ite_eq_iff.1 h with ⟨-, h⟩ | ⟨hn, h⟩
    · cases h
    · cases h
      exact not_lt.1 hn

/-- OnePulseIsOneIteration, PortsAtEveryCycleOfAnIteration: the smallest pulse, and for whatever `Iterate` answers an emission of the length it asks for. -/
theorem test_witness_onePulse :
    ∃ held : List Pins, 1 ≤ held.length ∧ (∀ p ∈ held, p.rst = none) ∧
      ({ State.reset with stimulus := levels false 1 ++ levels true 1 ++ levels false 1 ++ held ++ [] } : State).PHASE =
        .align ∧
      State.reset.ppmOut = false ∧ State.reset.rawStrobe = false ∧
      ∀ it, iterate Config.params State.reset.regs (conv Config.params 1) = .ok it →
        (held.length : Int) = 1 + emitCount Config.params it.out := by
  obtain ⟨n, h1, h2⟩ := held_for (iterate Config.params State.reset.regs (conv Config.params 1))
    fun it h => iterate_out_nonneg h
  refine ⟨levels true n, ?_, ?_, rfl, rfl, rfl, ?_⟩
  · rw [levels, List.length_replicate]
    exact h1
  · intro p hp
    rw [List.eq_of_mem_replicate hp]
  · intro it h
    rw [levels, List.length_replicate]
    exact h2 it h

/-- A pulse wider than `RAW_MAX` ends a run in `CaptureRange` with an empty trace (60_exceptions.md R241). -/
theorem runStimulus_captureRange {p : Params} (r : Regs) {raw : Nat} (h : p.rawMax < raw) :
    runStimulus p r [.pulse raw] = ([], .error (.captureRange raw)) := by
  simp [runStimulus, iterate, h]

/-- SignalTraceIsTheIterationTrace: two pulses lined up from reset, and one pulse that ends a run in `CaptureRange`. -/
theorem test_witness_trace :
    ({ State.reset with stimulus := pulseLevels Config.params State.reset.regs [(1, 1), (2, 3)] ++ [] } : State).PHASE =
        .align ∧
      (∀ q ∈ [(1, 1), (2, 3)], 1 ≤ q.1 ∧ 1 ≤ q.2) ∧
      1 ≤ 16384 * Config.params.fClkHz ∧
      runStimulus Config.params State.reset.regs [.pulse (conv Config.params (16384 * Config.params.fClkHz))] =
        ([], .error (.captureRange (conv Config.params (16384 * Config.params.fClkHz)))) := by
  have h : Config.params.rawMax < conv Config.params (16384 * Config.params.fClkHz) := conv_large
  obtain ⟨-, -, -, -, -, hf, -⟩ := Config.params_bounds
  exact ⟨rfl, by decide, by omega, runStimulus_captureRange _ h⟩

/-- ImplausiblePulseHoldsCalibration: both ends of each range. -/
theorem test_witness_implausible :
    T1.wf = true ∧ ∀ D ∈ [1, 255], ∀ raw ∈ [3001, 16383], 1 ≤ D ∧ D ≤ T1.durMax ∧ 3000 < raw ∧ raw ≤ T1.rawMax := by decide

/-- CalibrationAveragesTenPulses, ConstantNeutralIsLearntExactly: the widest deviations. -/
theorem test_witness_calibration :
    T1.wf = true ∧ (∀ raw ∈ [0, 3000], (List.replicate 21 raw).length = 21 ∧ ∀ x ∈ List.replicate 21 raw, x ≤ 3000) ∧
      (-1500 : Int) ≤ -1500 ∧ (1500 : Int) ≤ 1500 := by decide

/-- BurstLastsMaxburstIterations: widths that vary from the threshold up, with an allowance of one iteration and of fifteen. -/
theorem test_witness_burst :
    ∀ p ∈ [T1, { T1 with fwdFull := 40, maxBurst := 1 }],
      p.wf = true ∧ (∀ raw ∈ [1800, 2000, 1801],
          raw ≤ p.rawMax ∧ 40 ≤ (raw : Int) - 1500 - 0 ∧ p.fwdFull ≤ (raw : Int) - 1500 - 0) ∧
        (runStimulus p ⟨.idle, 1, 0, 0⟩ ([1800, 2000, 1801].map .pulse)).1.length = 3 ∧
        ∀ it ∈ (runStimulus p ⟨.idle, 1, 0, 0⟩ ([1800, 2000, 1801].map .pulse)).1,
          it.regs.S = .forward ∧ p.fwdFull ≤ it.w := by decide

/-- BurstRecoversOneByOne: from the lock value, one iteration too few and just enough. -/
theorem test_witness_recovery :
    T1.wf = true ∧ ∀ n ∈ [15, 16],
      (runStimulus T1 ⟨.stopped, 1, 0, 30⟩ ((List.replicate n 1500).map .pulse)).2 = .ok ⟨.stopped, 1 + n, 0, 30 - n⟩ ∧
        ∀ it ∈ (runStimulus T1 ⟨.stopped, 1, 0, 30⟩ ((List.replicate n 1500).map .pulse)).1,
          it.regs.S ≠ .forward ∧ it.regs.S ≠ .centering := by decide

/-- DurMaxIsUnobservable: the smallest saturation value and the spec's. -/
theorem test_witness_durMax : T1.wf = true ∧ 20 ≤ 20 ∧ 20 ≤ 255 := by decide

/-- IterateKeepsTheRanges: registers at the ends of their bounds, in `Centering` and after it, an iteration that completes and one that
faults. -/
theorem test_witness_iterateRange :
    T1.wf = true ∧ Regs.Inv T1 ⟨.centering, 20, -15000, 0⟩ ∧ (∃ it, iterate T1 ⟨.centering, 20, -15000, 0⟩ 16383 = .ok it) ∧
      Regs.Inv T1 ⟨.braking, 255, 1500, 30⟩ ∧ iterate T1 ⟨.braking, 255, 1500, 30⟩ 0 = .error (.emitRange (-1500)) := by
  refine ⟨by decide, ?_, ⟨_, rfl⟩, ?_, by decide⟩ <;> constructor <;> decide

/-- RunsStayInRange: an iteration of a run. -/
theorem test_witness_range :
    T1.wf = true ∧ T1.durMax ≤ 255 ∧ ∃ it, it ∈ (runStimulus T1 Regs.reset (pulses 3000 21)).1 :=
  ⟨by decide, by decide, _, List.mem_cons_self ..⟩

/-- ResetHoldsTheOutputs: in an emission quantum and in a `LOOP.COMPUTE` that completes, at the first edge and at the last, held over no
further edge and over two. -/
theorem test_witness_resetHolds :
    (∀ held ∈ [[], List.replicate 2 (⟨some 0, true⟩ : Pins)], ∀ p ∈ held, p.rst = some 0) ∧
      0 ≤ phaseCycles Config.params (sampling .emit 0 9 true).PHASE ∧
      Config.params.tProc ≤ phaseCycles Config.params (computing .idle 1 0 0 1500).PHASE ∧
      ∃ t, exec .loopCompute (computing .idle 1 0 0 1500) = .next t :=
  ⟨by decide, Nat.zero_le _, le_refl _, _, rfl⟩

end Sys2Proof.Tests
end

/-! PROOFS. The statement of 00_scope.md about `quot` (R12), from one equation per branch of its definition. -/

namespace Sys2Proof.Machine

theorem quot_of_nonneg {a : Int} (ha : 0 ≤ a) (b : Int) : quot a b = a / b := if_pos ha

theorem quot_of_neg {a : Int} (ha : a < 0) (b : Int) : quot a b = -(-a / b) := if_neg ha.not_ge

/-- `quot` is the library's truncating division, whatever the sign of the divisor. -/
theorem quot_eq_tdiv (a b : Int) : quot a b = Int.tdiv a b := by
  rcases le_or_gt 0 a with ha | ha
  · rw [quot_of_nonneg ha, Int.tdiv_eq_ediv_of_nonneg ha]
  · have hneg : Int.tdiv (-a) b = -a / b := Int.tdiv_eq_ediv_of_nonneg (by omega)
    rw [quot_of_neg ha, ← hneg, Int.neg_tdiv, neg_neg]

/-- The floor of a rational quotient of integers, which R12 writes, is the integers' own division. -/
theorem floor_intCast_div_intCast (a : Int) {b : Int} (hb : 0 < b) : ⌊(a : ℚ) / b⌋ = a / b := by
  rw [Int.floor_div_cast_of_nonneg hb.le, Int.floor_intCast]

/-- Settles O5: each sign of the dividend selects one branch of `quot`, whose integer division is the floor of R12. -/
theorem quotTruncatesTowardZero : Obligations.QuotTruncatesTowardZero := by
  refine ⟨fun a b hb => ⟨fun ha => ?nonneg, fun ha => ?neg, quot_eq_tdiv a b⟩, by decide⟩
  case nonneg => rw [quot_of_nonneg ha, floor_intCast_div_intCast a hb]
  case neg => rw [quot_of_neg ha, ← Int.cast_neg, floor_intCast_div_intCast (-a) hb]

end Sys2Proof.Machine

/-! PROOFS. The statement of 10_state.md about the reset values (R38), from the laws of the reset of a state in the middle of a run. -/

namespace Sys2Proof.Machine

/-- Resetting the reset state changes nothing, so what the laws of `resetRegisters` say of its result, they say of `State.reset`. -/
theorem State.resetRegisters_reset : State.reset.resetRegisters = State.reset := rfl

/-- Settles O10: `State.reset` is the result of a reset, and each register and output has its law for that. -/
theorem resetState : Obligations.ResetState := by
  rw [Obligations.ResetState, ← State.resetRegisters_reset]
  exact
    ⟨State.resetRegisters_S _, State.resetRegisters_D _, State.resetRegisters_OFF _, State.resetRegisters_B _,
      State.resetRegisters_PHASE _, State.resetRegisters_NCNT _, State.resetRegisters_ECNT _,
      State.resetRegisters_ppmOut _, State.resetRegisters_IND _, State.resetRegisters_REAR _,
      State.resetRegisters_RAWQ _, State.resetRegisters_rawStrobe _⟩

end Sys2Proof.Machine

/-! PROOFS. The statements of 40_capture.md about the operations that write only `PHASE` and `NCNT` (R102 to R106): one lemma says how
a PH word decodes, and one equation for each operation says what it writes. -/

namespace Sys2Proof

/-- The number of a PH word is split back into the word's own fields (30_encoding.md R75). -/
@[simp] theorem PhWord.ofNat_toNat (w : PhWord) : PhWord.ofNat w.toNat = w := by
  obtain ⟨phase, x⟩ := w
  have hx := Bool.toNat_le x
  have hphase : wordField (phase.toNat * 2 + x.toNat) 1 3 = phase.toNat := by
    have hlt := phase.isLt
    simp only [wordField]
    omega
  have hbit : wordBit (phase.toNat * 2 + x.toNat) 0 = x := by
    cases x <;> simp [wordBit, wordField]
  simp [PhWord.ofNat, PhWord.toNat, hphase, hbit]

/-- Every PH word fits its format, so `decode` answers what the word's fields select (30_encoding.md R80, R84). -/
theorem decode_phWord {w : PhWord} {i : Instr} (h : decodePh w = some i) : decode .ph w.toNat = .ok i := by
  have hfits : ¬ 2 ^ Format.ph.width ≤ w.toNat := w.toNat_lt.not_ge
  simp [decode, hfits, decodeFields, h]

theorem decode_capAlignWait : decode .ph 0b0001 = .ok .capAlignWait :=
  decode_phWord (w := ⟨Phase.align.code, true⟩) rfl

theorem decode_capAlignExit : decode .ph 0b0000 = .ok .capAlignExit :=
  decode_phWord (w := ⟨Phase.align.code, false⟩) rfl

theorem decode_capArmWait : decode .ph 0b0010 = .ok .capArmWait :=
  decode_phWord (w := ⟨Phase.arm.code, false⟩) rfl

theorem decode_capArmStart : decode .ph 0b0011 = .ok .capArmStart :=
  decode_phWord (w := ⟨Phase.arm.code, true⟩) rfl

theorem decode_capMeasCount : decode .ph 0b0101 = .ok .capMeasCount :=
  decode_phWord (w := ⟨Phase.measure.code, true⟩) rfl

end Sys2Proof

namespace Sys2Proof.Machine

/-- `goto` as a record update: it names the one field it writes. -/
theorem State.goto_eq (s : State) (ph : Phase) : s.goto ph = { s with PHASE := ph } := rfl

theorem exec_capAlignWait (s : State) : exec .capAlignWait s = .next (s.goto .align) := rfl

theorem exec_capAlignExit (s : State) : exec .capAlignExit s = .next (s.goto .arm) := rfl

theorem exec_capArmWait (s : State) : exec .capArmWait s = .next (s.goto .arm) := rfl

theorem exec_capArmStart (s : State) : exec .capArmStart s = .next (({ s with NCNT := 1 } : State).goto .measure) := rfl

theorem exec_capMeasCount (s : State) : exec .capMeasCount s = .next { s with NCNT := s.NCNT + 1 } := rfl

/-- Settles O12: the effect of each of the three operations is a `goto`, whose only write is the phase. -/
theorem captureWaitsWriteOnlyThePhase : Obligations.CaptureWaitsWriteOnlyThePhase := by
  intro s
  refine ⟨⟨decode_capAlignWait, ?alignWait⟩, ⟨decode_capAlignExit, ?alignExit⟩, ⟨decode_capArmWait, ?armWait⟩⟩
  case alignWait => rw [exec_capAlignWait, State.goto_eq]
  case alignExit => rw [exec_capAlignExit, State.goto_eq]
  case armWait => rw [exec_capArmWait, State.goto_eq]

/-- Settles O13: the sample that reveals the edge sets the count to 1 before the `goto`, and every later high sample adds 1 and stays
in its phase. -/
theorem captureCountsHighSamples : Obligations.CaptureCountsHighSamples := by
  intro s
  refine ⟨⟨decode_capArmStart, ?armStart⟩, ⟨decode_capMeasCount, ?measCount⟩⟩
  case armStart => rw [exec_capArmStart, State.goto_eq]
  case measCount => rw [exec_capMeasCount]

end Sys2Proof.Machine

/-! PROOFS. The statements of 42_calibration.md: one equation for each of the four operations (R144 to R147), one inversion lemma for
each of the places a step can write `S` and `OFF` in (R150), and one lemma for each kind of iteration in `Centering` (R148, R153). -/

namespace Sys2Proof.Machine

/-! ### The four operations (R144 to R147) -/

/-- Every word with `PLAUS = 0` selects `CAL.HOLD` (30_encoding.md R81). -/
theorem decodeCal_implausible (geEnd geStart : Bool) : decodeCal ⟨false, geEnd, geStart⟩ = .calHold := rfl

theorem decodeCal_settle : decodeCal ⟨true, false, false⟩ = .calSettle := rfl

theorem decodeCal_acc : decodeCal ⟨true, false, true⟩ = .calAcc := rfl

/-- The upper threshold is tested before the lower one (42_calibration.md R142). -/
theorem decodeCal_done (geStart : Bool) : decodeCal ⟨true, true, geStart⟩ = .calDone := rfl

theorem exec_calHold (s : State) : exec .calHold s = .next { s with D := max (s.D - 1) 0 } := rfl

theorem exec_calSettle (s : State) : exec .calSettle s = .next s := rfl

theorem exec_calAcc (s : State) : exec .calAcc s = .next { s with OFF := s.OFF + s.w } := rfl

theorem exec_calDone (s : State) : exec .calDone s = .next { s with OFF := quot s.OFF 10, S := .idle, D := 0 } := rfl

theorem exec_durInc (s : State) : exec .durInc s = .next { s with D := satinc s.D 255 } := rfl

/-- A held count: the increment undoes the decrement, but for the clamp at 0 (42_calibration.md R144). -/
theorem satinc_pred (x : Nat) {m : Nat} (hm : 1 ≤ m) : satinc (max (x - 1) 0) m = if x = 0 then 1 else min x m := by
  rw [satinc]
  split <;> omega

/-- Settles O16: the equation of each operation, with R12's division for that of `CAL.DONE` and the held count for the net effect of
`CAL.HOLD`. -/
theorem calibrationOperations : Obligations.CalibrationOperations := by
  intro s geEnd geStart
  refine ⟨⟨decodeCal_implausible geEnd geStart, exec_calHold s, ?held⟩, ⟨decodeCal_settle, exec_calSettle s⟩,
    ⟨decodeCal_acc, exec_calAcc s⟩, ⟨decodeCal_done geStart, ?done⟩⟩
  case held => rw [exec_durInc, satinc_pred s.D (by decide)]
  case done => rw [exec_calDone, quot_eq_tdiv]

/-! ### Where a step can write the offset (R150) -/

/-- The operations of the capture and emission phases write no architectural register but `D`. -/
theorem exec_phOp_withoutDuration {s a b : State} (hphase : s.PHASE ≠ .compute) (h : exec s.phOp a = .next b) :
    b.regs.withoutDuration = a.regs.withoutDuration := by
  cases hp : s.PHASE <;> simp only [State.phOp, hp] at h
  case align => split at h <;> cases h <;> rfl
  case arm => split at h <;> cases h <;> rfl
  case measure =>
    split at h
    · cases h; rfl
    · rcases measureEnd_cases Config.params a with ⟨-, hnext⟩ | ⟨-, hfault⟩
      · cases hnext.symm.trans h; rfl
      · cases hfault.symm.trans h
  case compute => exact absurd hp hphase
  case emit => split at h <;> cases h <;> rfl

/-- The policy operations write neither the state nor the offset. -/
theorem policy_S_OFF {p : Params} {i : Instr} {s t : State} (h : policy p i s = some t) : t.S = s.S ∧ t.OFF = s.OFF := by
  cases i <;> cases h <;> exact ⟨rfl, rfl⟩

theorem emitStart_S_OFF {p : Params} {out : Int} {s t : State} (h : emitStart p out s = .next t) :
    t.S = s.S ∧ t.OFF = s.OFF := by
  rcases emitStart_cases p out s with ⟨-, hnext⟩ | ⟨-, hfault⟩
  · cases hnext.symm.trans h; exact ⟨rfl, rfl⟩
  · cases hfault.symm.trans h

/-- `LOOP.COMPUTE` leaves the state and the offset as its calibration or state-machine operation does. -/
theorem loopCompute_S_OFF {p : Params} {s t : State} (h : loopCompute p s = .next t) :
    ∃ i classified, (s.latchWidth s.correctedWidth).fetchClassify = .ok i ∧
      classify i (s.latchWidth s.correctedWidth) = some classified ∧ t.S = classified.S ∧ t.OFF = classified.OFF := by
  obtain ⟨i, j, classified, scaled, hfetch, hclassify, -, hpolicy, heq⟩ := loopCompute_cases p s
  obtain ⟨hS, hOFF⟩ := policy_S_OFF hpolicy
  obtain ⟨hS', hOFF'⟩ := emitStart_S_OFF (heq.symm.trans h)
  exact ⟨i, classified, hfetch, hclassify, hS'.trans hS, hOFF'.trans hOFF⟩

/-- Format `DSM` selects operations of its own format only (30_encoding.md R82). -/
theorem decodeDsm_format {w : DsmWord} {i : Instr} (h : decodeDsm w = some i) : i.format = .dsm := by
  unfold decodeDsm at h
  split at h <;> (try split at h) <;> cases h <;> rfl

/-- A state-machine operation stays or enters a state other than `Centering` (43_state_machine.md R162). -/
theorem classify_dsm {i : Instr} {s t : State} (hi : i.format = .dsm) (h : classify i s = some t) :
    t = s ∨ ∃ new, new ≠ .centering ∧ t = s.enter new := by
  cases i <;> cases hi <;> cases h
  case dsmIdleStay | dsmRevWait | dsmRevKeep | dsmFwdWait | dsmFwdKeep | dsmStopStay | dsmBrkWait | dsmBrkKeep =>
    exact .inl rfl
  all_goals exact .inr ⟨_, by decide, rfl⟩

/-- After `Centering`, `LOOP.COMPUTE` keeps the offset and does not enter `Centering` (42_calibration.md R141, R150). -/
theorem loopCompute_after_centering {p : Params} {s t : State} (hS : s.S ≠ .centering) (h : loopCompute p s = .next t) :
    t.OFF = s.OFF ∧ t.S ≠ .centering := by
  obtain ⟨i, classified, hfetch, hclassify, htS, htOFF⟩ := loopCompute_S_OFF h
  have hformat : i.format = .dsm := by
    rw [State.fetchClassify, State.latchWidth_S, if_neg hS] at hfetch
    split at hfetch
    next hdecode => cases hfetch; exact decodeDsm_format hdecode
    next => cases hfetch
  rw [htS, htOFF]
  rcases classify_dsm hformat hclassify with rfl | ⟨new, hnew, rfl⟩
  · exact ⟨rfl, hS⟩
  · exact ⟨rfl, hnew⟩

/-- `CAL.HOLD` and `CAL.SETTLE` keep the offset, so it moves only on a plausible width with the count at 10 or above
(42_calibration.md R142). -/
theorem classify_calOp_OFF {s t : State} (h : classify (calOp s.D s.w) s = some t) (hOFF : t.OFF ≠ s.OFF) :
    s.w ≤ 1500 ∧ 10 ≤ s.D := by
  unfold calOp at h
  split at h
  next => cases h; exact absurd rfl hOFF
  next hplausible =>
    split at h
    next hend => omega
    next =>
      split at h
      next hstart => omega
      next => cases h; exact absurd rfl hOFF

/-- `LOOP.COMPUTE` moves the offset only in `Centering`, from a count of 10 on and on a plausible raw width. -/
theorem loopCompute_moves_OFF {p : Params} {s t : State} (h : loopCompute p s = .next t) (hOFF : t.OFF ≠ s.OFF) :
    s.S = .centering ∧ 10 ≤ s.D ∧ s.RAWQ ≤ 3000 := by
  have hS : s.S = .centering := by
    by_contra hS
    exact hOFF (loopCompute_after_centering hS h).1
  obtain ⟨i, classified, hfetch, hclassify, -, htOFF⟩ := loopCompute_S_OFF h
  rw [State.fetchClassify, State.latchWidth_S, if_pos hS, decodeCal_calWord] at hfetch
  cases hfetch
  rw [htOFF] at hOFF
  obtain ⟨hw, hD⟩ := classify_calOp_OFF hclassify hOFF
  rw [State.latchWidth_w, State.correctedWidth, if_pos hS, Config.CENTER] at hw
  exact ⟨hS, hD, by omega⟩

/-- What a step does to the state and the offset: those of `LOOP.COMPUTE` in `COMPUTE`, and nothing in the other phases. -/
theorem step_S_OFF {s t : State} (hrst : s.rstAsserted = false) (h : step s = .next t) :
    (s.PHASE = .compute ∧ ∃ u, loopCompute Config.params (s.lowerStrobe (phaseCycles Config.params s.PHASE)) = .next u ∧
        t.S = u.S ∧ t.OFF = u.OFF) ∨
      (s.PHASE ≠ .compute ∧ t.S = s.S ∧ t.OFF = s.OFF) := by
  rw [step_run hrst, closeStep_next] at h
  obtain ⟨u, hexec, rfl⟩ := h
  by_cases hphase : s.PHASE = .compute
  · have hop : s.phOp = .loopCompute := by simp only [State.phOp, hphase]
    rw [hop] at hexec
    exact .inl ⟨hphase, u, hexec, rfl, rfl⟩
  · have hregs := exec_phOp_withoutDuration hphase hexec
    exact .inr ⟨hphase, congrArg Regs.S hregs, congrArg Regs.OFF hregs⟩

/-- Settles O34: a step writes the state and the offset in `LOOP.COMPUTE` only, which after `Centering` runs a state-machine
operation and in `Centering` adds to the offset, or divides it, under R142's tests. -/
theorem offsetFrozenAfterCentering : Obligations.OffsetFrozenAfterCentering := by
  intro s t hrst hstep
  rcases step_S_OFF hrst hstep with ⟨hphase, u, hcompute, htS, htOFF⟩ | ⟨-, htS, htOFF⟩
  · rw [htS, htOFF]
    exact ⟨fun hS => loopCompute_after_centering (s := s.lowerStrobe _) hS hcompute,
      fun hOFF => ⟨hphase, loopCompute_moves_OFF (s := s.lowerStrobe _) hcompute hOFF⟩⟩
  · exact ⟨fun hS => ⟨htOFF, htS ▸ hS⟩, fun hOFF => absurd htOFF hOFF⟩

/-! ### Iterations in `Centering` (R148, R153) -/

/-- In `Centering` the policy, on `Centering` or on `Idle`, passes the width through: the pulse is emitted as it came, and the
registers are those of the calibration lines with the policy's burst counter and the duration counted (42_calibration.md R152). -/
theorem iterate_centering {p : Params} {r c : Regs} {op : Instr} {raw : Nat} (hr : r.S = .centering) (hraw : raw ≤ p.rawMax)
    (hcal : iterateCalibration r ((raw : Int) - 1500) = (c, op)) (hc : c.S = .centering ∨ c.S = .idle) :
    ∃ it, iterate p r raw = .ok it ∧ it.out = raw ∧ it.classOp = op ∧
      it.regs = { c with B := (iteratePolicy p c.S c.B (raw - 1500)).2.1, D := min (c.D + 1) p.durMax } := by
  have hpass : (iteratePolicy p c.S c.B ((raw : Int) - 1500)).1 = raw - 1500 := by
    rcases hc with hc | hc <;> rw [hc] <;> rfl
  have hout : ¬ (raw : Int) < 0 := by omega
  simp [iterate, hraw.not_gt, hr, hcal, hpass, hout]

/-- A plausible pulse before the count of 20: it is emitted as it came and counted, and from the count of 10 on its deviation is
accumulated (42_calibration.md R145, R146, R152). -/
theorem iterate_counting {p : Params} (hp : p.wf = true) {D raw : Nat} (OFF B : Int) (hD : D < 20) (hraw : raw ≤ 3000) :
    ∃ it, iterate p ⟨.centering, D, OFF, B⟩ raw = .ok it ∧ it.out = raw ∧
      it.regs = ⟨.centering, D + 1, OFF + if 10 ≤ D then (raw : Int) - 1500 else 0, B⟩ := by
  obtain ⟨-, -, -, -, -, -, -, -, hdur, hmax, -⟩ := (Params.wf_iff p).1 hp
  have hcal : iterateCalibration ⟨.centering, D, OFF, B⟩ ((raw : Int) - 1500) =
      (⟨.centering, D, OFF + if 10 ≤ D then (raw : Int) - 1500 else 0, B⟩, if 10 ≤ D then .calAcc else .calSettle) := by
    rw [iterateCalibration, if_neg (by omega), if_neg hD.not_ge]
    split <;> simp
  obtain ⟨it, hit, hout, -, hregs⟩ := iterate_centering rfl (hraw.trans hmax) hcal (.inl rfl)
  have hcount : min (D + 1) p.durMax = D + 1 := by omega
  rw [hcount] at hregs
  exact ⟨it, hit, hout, hregs⟩

/-- A plausible pulse at the count of 20: the sum of the deviations is divided by 10 and the state machine starts in `Idle`
(42_calibration.md R147). -/
theorem iterate_done {p : Params} (hp : p.wf = true) {D raw : Nat} (OFF B : Int) (hD : 20 ≤ D) (hraw : raw ≤ 3000) :
    ∃ it, iterate p ⟨.centering, D, OFF, B⟩ raw = .ok it ∧ it.out = raw ∧ it.classOp = .calDone ∧
      it.regs = ⟨.idle, 1, quot OFF 10, max (B - 1) 0⟩ := by
  obtain ⟨-, -, -, -, -, -, -, -, hdur, hmax, -⟩ := (Params.wf_iff p).1 hp
  have hcal : iterateCalibration ⟨.centering, D, OFF, B⟩ ((raw : Int) - 1500) = (⟨.idle, 0, quot OFF 10, B⟩, .calDone) := by
    rw [iterateCalibration, if_neg (by omega), if_pos hD]
  obtain ⟨it, hit, hout, hop, hregs⟩ := iterate_centering rfl (hraw.trans hmax) hcal (.inr rfl)
  have hcount : min (0 + 1) p.durMax = 1 := by omega
  rw [hcount] at hregs
  exact ⟨it, hit, hout, hop, hregs⟩

/-- A run goes on after a part that ends without a fault. -/
theorem runStimulus_append {p : Params} {r r' : Regs} {a : List Stimulus} {tr : List Iteration} (b : List Stimulus)
    (h : runStimulus p r a = (tr, .ok r')) :
    runStimulus p r (a ++ b) = (tr ++ (runStimulus p r' b).1, (runStimulus p r' b).2) := by
  induction a generalizing r tr with
  | nil => cases h; rfl
  | cons stimulus rest ih =>
    cases stimulus with
    | reset => exact ih h
    | pulse raw =>
      rw [runStimulus] at h
      split at h
      next => cases h
      next it hit =>
        obtain ⟨rfl, hend⟩ := Prod.mk.inj h
        simp [runStimulus, hit, ih (Prod.ext rfl hend)]

/-- A run goes on by one iteration over one more pulse. -/
theorem runStimulus_concat_pulse {p : Params} {r r' : Regs} {a : List Stimulus} {tr : List Iteration} {raw : Nat}
    {it : Iteration} (h : runStimulus p r a = (tr, .ok r')) (hit : iterate p r' raw = .ok it) :
    runStimulus p r (a ++ [.pulse raw]) = (tr ++ [it], .ok it.regs) := by
  simp [runStimulus_append _ h, runStimulus, hit]

/-- The deviations that are accumulated of plausible pulses from reset: those after the tenth pulse (42_calibration.md R148). -/
def deviationSum (raws : List Nat) : Int := ((raws.drop 10).map fun raw : Nat => (raw : Int) - 1500).sum

theorem deviationSum_concat (raws : List Nat) (raw : Nat) :
    deviationSum (raws ++ [raw]) = deviationSum raws + if 10 ≤ raws.length then (raw : Int) - 1500 else 0 := by
  by_cases h : 10 ≤ raws.length
  · simp [deviationSum, List.drop_append, h]
  · have hnone : (raws ++ [raw]).drop 10 = [] := List.drop_eq_nil_of_le (by simp; omega)
    have hnone' : raws.drop 10 = [] := List.drop_eq_nil_of_le (by omega)
    simp [deviationSum, hnone, hnone', h]

theorem deviationSum_replicate (n raw : Nat) :
    deviationSum (List.replicate n raw) = ((n - 10 : Nat) : Int) * ((raw : Int) - 1500) := by
  simp [deviationSum]

/-- Up to twenty plausible pulses from reset are counted, and the deviations after the tenth are accumulated (42_calibration.md
R148); each is emitted as it came (R152). -/
theorem runStimulus_counting {p : Params} (hp : p.wf = true) (raws : List Nat) (hlen : raws.length ≤ 20)
    (hraws : ∀ raw ∈ raws, raw ≤ 3000) :
    ∃ tr, runStimulus p Regs.reset (raws.map .pulse) = (tr, .ok ⟨.centering, raws.length, deviationSum raws, 0⟩) ∧
      tr.map (fun it => it.out) = raws.map (fun raw : Nat => (raw : Int)) := by
  induction raws using List.reverseRecOn with
  | nil => exact ⟨[], rfl, rfl⟩
  | append_singleton raws raw ih =>
    rw [List.length_append, List.length_singleton] at hlen
    obtain ⟨tr, hrun, houts⟩ := ih (by omega) fun x hx => hraws x (List.mem_append_left _ hx)
    obtain ⟨it, hit, hout, hregs⟩ :=
      iterate_counting hp (deviationSum raws) 0 (by omega : raws.length < 20) (hraws raw (by simp))
    refine ⟨tr ++ [it], ?_, by simp [houts, hout]⟩
    rw [List.map_append, List.map_singleton, runStimulus_concat_pulse hrun hit, hregs, deviationSum_concat,
      List.length_append, List.length_singleton]

/-- The twenty-first plausible pulse completes calibration (42_calibration.md R147, R148). -/
theorem runStimulus_calibration {p : Params} (hp : p.wf = true) {raws : List Nat} {last : Nat} (hlen : raws.length = 20)
    (hraws : ∀ raw ∈ raws, raw ≤ 3000) (hlast : last ≤ 3000) :
    ∃ tr it, runStimulus p Regs.reset ((raws ++ [last]).map .pulse) =
        (tr ++ [it], .ok ⟨.idle, 1, quot (deviationSum raws) 10, 0⟩) ∧
      (tr ++ [it]).map (fun it => it.out) = (raws ++ [last]).map (fun raw : Nat => (raw : Int)) ∧
      tr.length = 20 ∧ it.classOp = .calDone := by
  obtain ⟨tr, hrun, houts⟩ := runStimulus_counting hp raws hlen.le hraws
  obtain ⟨it, hit, hout, hop, hregs⟩ := iterate_done hp (deviationSum raws) 0 hlen.ge hlast
  refine ⟨tr, it, ?_, by simp [houts, hout], ?_, hop⟩
  · rw [List.map_append, List.map_singleton, runStimulus_concat_pulse hrun hit, hregs]
    rfl
  · simpa [hlen] using congrArg List.length houts

/-- Settles O49: twenty equal pulses accumulate ten times the deviation, and the twenty-first divides that by 10. -/
theorem constantNeutralIsLearntExactly : Obligations.ConstantNeutralIsLearntExactly := by
  intro p d hp hlow hhigh
  have hraw : (1500 + d).toNat ≤ 3000 := by omega
  obtain ⟨tr, it, hrun, -, hlen, hop⟩ :=
    runStimulus_calibration hp (List.length_replicate (n := 20)) (fun _ h => List.eq_of_mem_replicate h ▸ hraw) hraw
  have hsum : deviationSum (List.replicate 20 (1500 + d).toNat) = 10 * d := by
    rw [deviationSum_replicate]
    omega
  rw [hsum, quot_eq_tdiv, Int.mul_tdiv_cancel_left d (by decide)] at hrun
  have hpulses : pulses (1500 + d).toNat 21 = (List.replicate 20 (1500 + d).toNat ++ [(1500 + d).toNat]).map .pulse := rfl
  exact ⟨tr ++ [it], it, hpulses ▸ hrun, by simp [hlen], hop⟩

end Sys2Proof.Machine

/-! PROOFS. The statements of 43_state_machine.md: the width classes (R161), the words and effects of the eighteen operations (R162 to
R181), and the dwell near the centre (R185), for which one lemma says which state `LOOP.COMPUTE` leaves and one when it completes. -/

namespace Sys2Proof.Machine

/-! ### The width classes (R161) -/

theorem widthClass_eq_neg_iff {w : Int} : widthClass w = .neg ↔ w ≤ -40 := by
  unfold widthClass
  split
  next hneg => exact iff_of_true rfl hneg
  next hneg => split <;> exact iff_of_false (by decide) hneg

theorem widthClass_eq_pos_iff {w : Int} : widthClass w = .pos ↔ 40 ≤ w := by
  unfold widthClass
  split
  next hneg =>
    rw [Config.MARGIN] at hneg
    exact iff_of_false (by decide) (by omega)
  next =>
    split
    next hpos => exact iff_of_true rfl hpos
    next hpos => exact iff_of_false (by decide) hpos

/-- A width that is in neither of the outer classes is in the middle one. -/
theorem widthClass_eq_mid_iff {w : Int} : widthClass w = .mid ↔ -40 < w ∧ w < 40 := by
  have hneg := widthClass_eq_neg_iff (w := w)
  have hpos := widthClass_eq_pos_iff (w := w)
  cases hclass : widthClass w <;> simp only [hclass, reduceCtorEq, true_iff, false_iff] at hneg hpos ⊢ <;> omega

/-- Settles O7: the three equivalences, class by class. -/
theorem widthClassPartitionsTheIntegers : Obligations.WidthClassPartitionsTheIntegers :=
  fun _ => ⟨widthClass_eq_neg_iff, widthClass_eq_pos_iff, widthClass_eq_mid_iff⟩

/-! ### The operation map, state by state (30_encoding.md R82) -/

theorem decodeDsm_idle (held : Bool) :
    decodeDsm ⟨0b001#3, 0b00#2, held⟩ = some .dsmIdleStay ∧ decodeDsm ⟨0b001#3, 0b01#2, held⟩ = some .dsmIdleFwd ∧
      decodeDsm ⟨0b001#3, 0b10#2, held⟩ = some .dsmIdleRev := ⟨rfl, rfl, rfl⟩

theorem decodeDsm_reverse (held : Bool) :
    decodeDsm ⟨0b010#3, 0b00#2, held⟩ = some (if held then .dsmRevIdle else .dsmRevWait) ∧
      decodeDsm ⟨0b010#3, 0b01#2, held⟩ = some .dsmRevFwd ∧
      decodeDsm ⟨0b010#3, 0b10#2, held⟩ = some .dsmRevKeep := ⟨rfl, rfl, rfl⟩

theorem decodeDsm_forward (held : Bool) :
    decodeDsm ⟨0b011#3, 0b00#2, held⟩ = some (if held then .dsmFwdStop else .dsmFwdWait) ∧
      decodeDsm ⟨0b011#3, 0b01#2, held⟩ = some .dsmFwdKeep ∧
      decodeDsm ⟨0b011#3, 0b10#2, held⟩ = some .dsmFwdBrk := ⟨rfl, rfl, rfl⟩

theorem decodeDsm_stopped (held : Bool) :
    decodeDsm ⟨0b100#3, 0b00#2, held⟩ = some .dsmStopStay ∧ decodeDsm ⟨0b100#3, 0b01#2, held⟩ = some .dsmStopFwd ∧
      decodeDsm ⟨0b100#3, 0b10#2, held⟩ = some .dsmStopBrk := ⟨rfl, rfl, rfl⟩

theorem decodeDsm_braking (held : Bool) :
    decodeDsm ⟨0b101#3, 0b00#2, held⟩ = some (if held then .dsmBrkIdle else .dsmBrkWait) ∧
      decodeDsm ⟨0b101#3, 0b01#2, held⟩ = some .dsmBrkFwd ∧
      decodeDsm ⟨0b101#3, 0b10#2, held⟩ = some .dsmBrkKeep := ⟨rfl, rfl, rfl⟩

/-! ### The ten transitions and the eight stays (R162) -/

/-- An operation whose effect is to enter a state writes the state and the duration, and nothing else. -/
theorem exec_of_enter {i : Instr} {s : State} {new : DrivingState} (h : classify i s = some (s.enter new)) :
    exec i s = .next { s with S := new, D := 0 } := exec_of_classify h

/-- An operation whose effect is to stay writes nothing. -/
theorem exec_of_stay {i : Instr} {s : State} (h : classify i s = some s.stay) : exec i s = .next s := exec_of_classify h

/-- Settles O17: the rows of the operation map that move, and `enter`, the effect of each. -/
theorem drivingTransitions : Obligations.DrivingTransitions := by
  intro s d
  obtain ⟨-, hIdleFwd, hIdleRev⟩ := decodeDsm_idle d
  obtain ⟨-, hRevFwd, -⟩ := decodeDsm_reverse d
  obtain ⟨hRevIdle, -, -⟩ := decodeDsm_reverse true
  obtain ⟨-, -, hFwdBrk⟩ := decodeDsm_forward d
  obtain ⟨hFwdStop, -, -⟩ := decodeDsm_forward true
  obtain ⟨-, hStopFwd, hStopBrk⟩ := decodeDsm_stopped d
  obtain ⟨-, hBrkFwd, -⟩ := decodeDsm_braking d
  obtain ⟨hBrkIdle, -, -⟩ := decodeDsm_braking true
  exact ⟨⟨hIdleRev, exec_of_enter rfl⟩, ⟨hIdleFwd, exec_of_enter rfl⟩, ⟨hRevFwd, exec_of_enter rfl⟩,
    ⟨hRevIdle, exec_of_enter rfl⟩, ⟨hFwdBrk, exec_of_enter rfl⟩, ⟨hFwdStop, exec_of_enter rfl⟩,
    ⟨hStopFwd, exec_of_enter rfl⟩, ⟨hStopBrk, exec_of_enter rfl⟩, ⟨hBrkFwd, exec_of_enter rfl⟩,
    ⟨hBrkIdle, exec_of_enter rfl⟩⟩

/-- Settles O18: the rows of the operation map that stay, and `stay`, the effect of each. -/
theorem drivingStays : Obligations.DrivingStays := by
  intro s d
  obtain ⟨hIdleStay, -, -⟩ := decodeDsm_idle d
  obtain ⟨-, -, hRevKeep⟩ := decodeDsm_reverse d
  obtain ⟨hRevWait, -, -⟩ := decodeDsm_reverse false
  obtain ⟨-, hFwdKeep, -⟩ := decodeDsm_forward d
  obtain ⟨hFwdWait, -, -⟩ := decodeDsm_forward false
  obtain ⟨hStopStay, -, -⟩ := decodeDsm_stopped d
  obtain ⟨-, -, hBrkKeep⟩ := decodeDsm_braking d
  obtain ⟨hBrkWait, -, -⟩ := decodeDsm_braking false
  exact ⟨⟨hIdleStay, exec_of_stay rfl⟩, ⟨hRevKeep, exec_of_stay rfl⟩, ⟨hRevWait, exec_of_stay rfl⟩,
    ⟨hFwdKeep, exec_of_stay rfl⟩, ⟨hFwdWait, exec_of_stay rfl⟩, ⟨hStopStay, exec_of_stay rfl⟩,
    ⟨hBrkKeep, exec_of_stay rfl⟩, ⟨hBrkWait, exec_of_stay rfl⟩⟩

/-! ### The state that `LOOP.COMPUTE` leaves after `Centering` (R160 to R182) -/

/-- The `DSM` word selects the operation that the lines of `Iterate` name (30_encoding.md R82, 45_loop.md R224): their two tests
of the width are the class, and that of the duration is the dwell bit. -/
theorem decodeDsm_dsmWord {s : State} (hS : s.S ≠ .centering) :
    decodeDsm s.dsmWord = some (iterateNext s.S s.D s.w).2 := by
  have hdwell : dwell s.D = decide (4 ≤ s.D) := rfl
  simp only [State.dsmWord, iterateNext, ← widthClass_eq_neg_iff, ← widthClass_eq_pos_iff, hdwell]
  cases hstate : s.S
  case centering => exact absurd hstate hS
  all_goals
    cases widthClass s.w <;> by_cases hheld : 4 ≤ s.D <;> simp [decodeDsm, hheld]

/-- The operation that `Iterate` names enters the state that `Iterate` computes, or stays where that is the old one. -/
theorem classify_iterateNext {s : State} (hS : s.S ≠ .centering) :
    classify (iterateNext s.S s.D s.w).2 s =
      some (if (iterateNext s.S s.D s.w).1 = s.S then s else s.enter (iterateNext s.S s.D s.w).1) := by
  generalize hnext : iterateNext s.S s.D s.w = next
  cases hstate : s.S
  case centering => exact absurd hstate hS
  all_goals
    rw [hstate] at hnext
    simp only [iterateNext] at hnext
    split_ifs at hnext <;> cases hnext <;> rfl

/-- After `Centering`, `LOOP.COMPUTE` leaves the state that the lines of `Iterate` compute (45_loop.md R223, R224). -/
theorem loopCompute_S {p : Params} {s t : State} (hS : s.S ≠ .centering) (h : loopCompute p s = .next t) :
    t.S = (iterateNext s.S s.D s.correctedWidth).1 := by
  obtain ⟨i, classified, hfetch, hclassify, htS, -⟩ := loopCompute_S_OFF h
  rw [State.fetchClassify, State.latchWidth_S, if_neg hS, decodeDsm_dsmWord (s := s.latchWidth s.correctedWidth) hS] at hfetch
  cases hfetch
  cases (classify_iterateNext (s := s.latchWidth s.correctedWidth) hS).symm.trans hclassify
  rw [htS]
  split
  next hsame => exact hsame.symm
  next => rfl

/-- The state that a near-centre width leads to once the dwell is over (43_state_machine.md R166, R168, R172, R177, R179). -/
def afterDwell : DrivingState → DrivingState
  | .centering => .centering
  | .idle => .idle
  | .reverse => .idle
  | .forward => .stopped
  | .stopped => .stopped
  | .braking => .idle

/-- With a near-centre width only the dwell moves the state machine (43_state_machine.md R185). -/
theorem iterateNext_nearCentre {w : Int} (hlow : -40 < w) (hhigh : w < 40) (S : DrivingState) (D : Nat) :
    (iterateNext S D w).1 = if 4 ≤ D then afterDwell S else S := by
  have hneg : ¬ w ≤ -40 := hlow.not_ge
  have hpos : ¬ 40 ≤ w := hhigh.not_ge
  cases S <;> simp only [iterateNext, if_neg hneg, if_neg hpos] <;> split <;> rfl

/-! ### When `LOOP.COMPUTE` completes (R207, 41_emission.md R122) -/

/-- Scaling by a fraction of at most 1 takes a negative width no further from 0 and leaves any other non-negative
(00_scope.md R13). -/
theorem min_zero_le_scale {num den : Int} (hnum : 0 ≤ num) (hle : num ≤ den) (hden : 0 < den) (w : Int) :
    min w 0 ≤ scale w num den := by
  rw [scale, quot_eq_tdiv]
  rcases le_total 0 w with hw | hw
  · exact (min_le_right w 0).trans (Int.tdiv_nonneg (mul_nonneg hw hnum) hden.le)
  · calc min w 0 ≤ w := min_le_left w 0
      _ = Int.tdiv (w * den) den := (Int.mul_tdiv_cancel w hden.ne').symm
      _ ≤ Int.tdiv (w * num) den := Int.tdiv_le_tdiv hden (Int.mul_le_mul_of_nonpos_left hw hle)

/-- A calibration or state-machine operation does not write the corrected width. -/
theorem classify_w {i : Instr} {s t : State} (h : classify i s = some t) : t.w = s.w := by
  cases i <;> cases h <;> rfl

/-- The policy scales the width by a fraction of at most 1, or passes it through (44_scaling.md R205, R206). -/
theorem min_zero_le_policy_v {p : Params} (hp : p.wf = true) {i : Instr} {s t : State} (h : policy p i s = some t) :
    min s.w 0 ≤ t.v := by
  obtain ⟨-, -, hnum, hle, -⟩ := (Params.wf_iff p).1 hp
  cases i <;> cases h
  case polRev => exact min_zero_le_scale (by omega) (by omega) (by omega) s.w
  case polFwdCap | polFwdLockout => exact min_zero_le_scale (by decide) (by decide) (by decide) s.w
  all_goals exact min_le_left s.w 0

/-- `LOOP.COMPUTE` completes in any state when the corrected width is not below -1500: the policy does not take it further below
0, so the output width is not negative. -/
theorem loopCompute_completes {p : Params} (hp : p.wf = true) {s : State} (hw : -1500 ≤ s.correctedWidth) :
    ∃ t, loopCompute p s = .next t := by
  obtain ⟨i, j, classified, scaled, -, hclassify, -, hpolicy, heq⟩ := loopCompute_cases p s
  have hv := min_zero_le_policy_v hp hpolicy
  rw [classify_w hclassify, State.latchWidth_w] at hv
  have hout : 0 ≤ scaled.outWidth := by
    rw [State.outWidth, Config.CENTER]
    omega
  rcases emitStart_cases p scaled.outWidth scaled.presentRear.discardTransients with ⟨-, hnext⟩ | ⟨hneg, -⟩
  · exact ⟨_, heq.trans hnext⟩
  · omega

theorem exec_loopCompute (s : State) : exec .loopCompute s = loopCompute Config.params s := rfl

/-- Settles O25: the iteration completes, as a near-centre width is far above -1500, and it leaves the state that the dwell alone
decides. -/
theorem nearCentreNeedsTheDwell : Obligations.NearCentreNeedsTheDwell := by
  intro s hS hlow hhigh
  have hwidth : s.correctedWidth = s.RAWQ - 1500 - s.OFF := if_neg hS
  obtain ⟨t, ht⟩ := loopCompute_completes Config.params_wf (s := s) (by omega)
  have htS := loopCompute_S hS ht
  rw [hwidth, iterateNext_nearCentre hlow hhigh] at htS
  refine ⟨t, (exec_loopCompute s).trans ht, fun hD _ => ?early, fun hD => ⟨fun hfwd => ?forward, ?reverseOrBraking⟩, ?idleOrStopped⟩
  case early => rw [htS, if_neg hD.not_ge]
  case forward => rw [htS, if_pos hD, hfwd, afterDwell]
  case reverseOrBraking =>
    intro hstate
    rw [htS, if_pos hD]
    rcases hstate with hstate | hstate <;> rw [hstate, afterDwell]
  case idleOrStopped =>
    intro hstate
    have hsame : afterDwell s.S = s.S := by rcases hstate with hstate | hstate <;> rw [hstate, afterDwell]
    rw [htS, hsame, ite_self]

end Sys2Proof.Machine

/-! PROOFS. The statements of 44_scaling.md: a scaled width lies between the width and 0 and is odd in it (R206); and a burst (R204), for
which one lemma says how an iteration follows the policy of its new state, and one that `binc` alone moves the counter of the run. -/

namespace Sys2Proof.Machine

/-! ### The scaled width (R206) -/

theorem scale_zero (num den : Int) : scale 0 num den = 0 := by rw [scale, zero_mul, quot_zero]

/-- Truncation toward zero is the same on both sides of 0. -/
theorem scale_neg (w num den : Int) : scale (-w) num den = -scale w num den := by
  rw [scale, scale, quot_eq_tdiv, quot_eq_tdiv, neg_mul, Int.neg_tdiv]

/-- The upper half of R206's bound, the mirror image of `min_zero_le_scale` as `scale` is odd. -/
theorem scale_le_max_zero {num den : Int} (hnum : 0 ≤ num) (hle : num ≤ den) (hden : 0 < den) (w : Int) :
    scale w num den ≤ max w 0 := by
  have hlow := min_zero_le_scale hnum hle hden (-w)
  rw [scale_neg] at hlow
  omega

/-- Settles O6: a scaled width is at least `min w 0` and at most `max w 0`, which gives its sign and its magnitude. -/
theorem scaleReducesSymmetrically : Obligations.ScaleReducesSymmetrically := by
  refine ⟨fun w num den hnum hle hden => ?_, by decide⟩
  have hlow := min_zero_le_scale hnum hle hden w
  have hhigh := scale_le_max_zero hnum hle hden w
  refine ⟨rfl, fun hw => ?nonneg, fun hw => ?nonpos, abs_le.2 ⟨?below, ?above⟩, scale_zero num den, scale_neg w num den⟩
  case nonneg => rwa [min_eq_right hw] at hlow
  case nonpos => rwa [max_eq_right hw] at hhigh
  case below => exact (le_min (neg_abs_le w) (neg_nonpos.2 (abs_nonneg w))).trans hlow
  case above => exact hhigh.trans (max_le (le_abs_self w) (abs_nonneg w))

/-! ### One iteration: the policy of the new state, on the old counter (R191, R192) -/

/-- The calibration lines leave the burst counter to the policy. -/
theorem iterateCalibration_B (r : Regs) (w : Int) : (iterateCalibration r w).1.B = r.B := by
  unfold iterateCalibration
  split_ifs <;> rfl

/-- The state-machine lines write the state they compute, and neither the offset nor the burst counter. -/
theorem iterateDriving_regs (r : Regs) (w : Int) :
    (iterateDriving r w).1.S = (iterateNext r.S r.D w).1 ∧ (iterateDriving r w).1.OFF = r.OFF ∧
      (iterateDriving r w).1.B = r.B := by
  simp only [iterateDriving]
  split_ifs with hsame
  · exact ⟨hsame.symm, rfl, rfl⟩
  · exact ⟨rfl, rfl, rfl⟩

/-- An iteration that completes follows the policy of its new state on the counter it began with (45_loop.md R224). -/
theorem iterate_policy {p : Params} {r : Regs} {raw : Nat} {it : Iteration} (h : iterate p r raw = .ok it) :
    iteratePolicy p it.regs.S r.B it.w = (it.v, it.regs.B, it.IND, it.polOp) ∧ it.out = it.v + 1500 := by
  simp only [iterate] at h
  split_ifs at h <;> cases h
  next => exact ⟨by rw [← iterateCalibration_B r], rfl⟩
  next =>
    obtain ⟨-, -, hB⟩ := iterateDriving_regs r ((raw : Int) - 1500 - r.OFF)
    exact ⟨by rw [← hB], rfl⟩

/-- A full width in `Forward` passes through while the allowance lasts and is scaled by 2/5 after it, and either way the counter goes
on by `binc` (44_scaling.md R192, R199, R201). -/
theorem iteratePolicy_full {p : Params} {w : Int} (hw : p.fwdFull ≤ w) (B : Int) :
    iteratePolicy p .forward B w =
      if B < p.maxBurst then (w, binc p B, .off, .polFwdBurst) else (quot (2 * w) 5, binc p B, .limited, .polFwdLockout) := by
  simp only [iteratePolicy, binc, Config.burstLock, hw, true_and, if_true]

/-! ### A burst (R204) -/

/-- The iterations a burst is made of: those that end in `Forward` at a width of at least `FWDFULL`. -/
def Iteration.FullForward (p : Params) (it : Iteration) : Prop := it.regs.S = .forward ∧ p.fwdFull ≤ it.w

/-- What an iteration of a burst does, by the counter it finds: unscaled below `MAXBURST`, scaled by 2/5 from there on. -/
theorem iterate_fullForward {p : Params} {r : Regs} {raw : Nat} {it : Iteration} (h : iterate p r raw = .ok it)
    (hfull : it.FullForward p) :
    it.regs.B = binc p r.B ∧ (r.B < p.maxBurst → it.polOp = .polFwdBurst ∧ it.out = it.w + 1500) ∧
      (p.maxBurst ≤ r.B → it.polOp = .polFwdLockout ∧ it.out = Int.tdiv (2 * it.w) 5 + 1500) := by
  obtain ⟨hS, hw⟩ := hfull
  obtain ⟨hpolicy, hout⟩ := iterate_policy h
  rw [hS, iteratePolicy_full hw, quot_eq_tdiv] at hpolicy
  split at hpolicy <;> simp only [Prod.mk.injEq] at hpolicy <;> obtain ⟨hv, hB, -, hop⟩ := hpolicy
  next havail => exact ⟨hB.symm, fun _ => ⟨hop.symm, hv ▸ hout⟩, fun hlock => absurd havail hlock.not_gt⟩
  next hlock => exact ⟨hB.symm, fun havail => absurd havail hlock, fun _ => ⟨hop.symm, hv ▸ hout⟩⟩

/-- The counter after `n` increments from 0: it counts up to `MAXBURST`, where it locks (44_scaling.md R192). -/
theorem binc_iterate_zero {p : Params} (hp : p.wf = true) (n : Nat) :
    (binc p)^[n] 0 = if p.maxBurst ≤ n then 2 * (p.maxBurst : Int) else n := by
  obtain ⟨hburst, -⟩ := (Params.wf_iff p).1 hp
  induction n with
  | zero => rw [if_neg (by omega)]; rfl
  | succ n ih =>
    rw [Function.iterate_succ_apply', ih, binc, Config.burstLock]
    split_ifs <;> omega

/-- In a run of full iterations in `Forward`, iteration `k` finds the counter incremented `k` times. -/
theorem runStimulus_burst {p : Params} {r : Regs} {raws : List Nat}
    (hrun : ∀ it ∈ (runStimulus p r (raws.map .pulse)).1, it.FullForward p) {k : Nat} {it : Iteration}
    (hit : (runStimulus p r (raws.map .pulse)).1[k]? = some it) :
    ∃ start raw, iterate p start raw = .ok it ∧ start.B = (binc p)^[k] r.B := by
  induction raws generalizing r k with
  | nil => cases hit
  | cons raw raws ih =>
    rw [List.map_cons, runStimulus] at hrun hit
    cases hfirst : iterate p r raw with
    | error => rw [hfirst] at hit; cases hit
    | ok first =>
      rw [hfirst] at hrun hit
      obtain ⟨hfull, hrest⟩ := List.forall_mem_cons.1 hrun
      cases k with
      | zero => cases hit; exact ⟨r, raw, hfirst, rfl⟩
      | succ k =>
        obtain ⟨hB, -⟩ := iterate_fullForward hfirst hfull
        rw [Function.iterate_succ_apply, ← hB]
        exact ih hrest hit

/-- After `Centering`, a width in the positive class leads to `Forward` from every state (43_state_machine.md R161). -/
theorem iterateNext_positive {S : DrivingState} (hS : S ≠ .centering) (D : Nat) {w : Int} (hw : 40 ≤ w) :
    (iterateNext S D w).1 = .forward := by
  have hneg : ¬ w ≤ -40 := by omega
  cases S
  case centering => exact absurd rfl hS
  all_goals simp [iterateNext, hneg, hw]

/-- In `Forward` the policy takes no width that is not negative below 0 (44_scaling.md R206). -/
theorem iteratePolicy_forward_nonneg (p : Params) (B : Int) {w : Int} (hw : 0 ≤ w) :
    0 ≤ (iteratePolicy p .forward B w).1 := by
  obtain ⟨hscaled, -⟩ := quot_nonneg_bounds (by decide : (0 : Int) < 5) (by omega : 0 ≤ 2 * w)
  simp only [iteratePolicy]
  split
  next => exact hw
  next => exact hscaled

/-- After `Centering`, a capture of a width in the positive class completes, ends in `Forward` and keeps the offset. -/
theorem iterate_positive {p : Params} {r : Regs} {raw : Nat} (hS : r.S ≠ .centering) (hraw : raw ≤ p.rawMax)
    (hw : 40 ≤ (raw : Int) - 1500 - r.OFF) :
    ∃ it, iterate p r raw = .ok it ∧ it.w = raw - 1500 - r.OFF ∧ it.regs.S = .forward ∧ it.regs.OFF = r.OFF := by
  obtain ⟨hnext, hOFF, -⟩ := iterateDriving_regs r ((raw : Int) - 1500 - r.OFF)
  rw [iterateNext_positive hS r.D hw] at hnext
  have hv := iteratePolicy_forward_nonneg p (iterateDriving r ((raw : Int) - 1500 - r.OFF)).1.B
    ((by decide : (0 : Int) ≤ 40).trans hw)
  simp only [iterate, if_neg hraw.not_gt, if_neg hS, hnext]
  rw [if_neg (by omega)]
  exact ⟨_, rfl, rfl, rfl, hOFF⟩

/-- Widths of at least `FWDFULL` and 40 throughout keep a run in `Forward`, from any state after `Centering`. -/
theorem runStimulus_fullForward {p : Params} {r : Regs} {raws : List Nat} (hS : r.S ≠ .centering)
    (hraws : ∀ raw ∈ raws,
      raw ≤ p.rawMax ∧ 40 ≤ (raw : Int) - 1500 - r.OFF ∧ p.fwdFull ≤ (raw : Int) - 1500 - r.OFF) :
    ∃ tr r', runStimulus p r (raws.map .pulse) = (tr, .ok r') ∧
      tr.map (fun it => it.w) = raws.map (fun raw : Nat => (raw : Int) - 1500 - r.OFF) ∧
      ∀ it ∈ tr, it.FullForward p := by
  induction raws generalizing r with
  | nil => exact ⟨[], r, rfl, rfl, by simp⟩
  | cons raw raws ih =>
    obtain ⟨⟨hraw, hpos, hfull⟩, hrest⟩ := List.forall_mem_cons.1 hraws
    obtain ⟨it, hit, hw, hfwd, hOFF⟩ := iterate_positive hS hraw hpos
    obtain ⟨tr, r', hrun, hws, hall⟩ := ih (r := it.regs) (by simp [hfwd]) (hOFF ▸ hrest)
    refine ⟨it :: tr, r', ?_, ?_, List.forall_mem_cons.2 ⟨⟨hfwd, hw ▸ hfull⟩, hall⟩⟩
    · simp [runStimulus, hit, hrun]
    · rw [List.map_cons, List.map_cons, hw, hws, hOFF]

/-- Settles O50: iteration `k` of the burst finds the counter incremented `k` times from 0, which is below `MAXBURST` exactly while `k`
is, and leaves it incremented once more. -/
theorem burstLastsMaxburstIterations : Obligations.BurstLastsMaxburstIterations := by
  intro p r raws hp hB
  refine ⟨fun hrun k it hit => ?_, runStimulus_fullForward⟩
  obtain ⟨start, raw, hstep, hstart⟩ := runStimulus_burst hrun hit
  obtain ⟨hafter, hburst, hlockout⟩ := iterate_fullForward hstep (hrun it (List.mem_of_getElem? hit))
  rw [hstart, hB, ← Function.iterate_succ_apply' (binc p), binc_iterate_zero hp] at hafter
  rw [hB, binc_iterate_zero hp] at hstart
  refine ⟨fun hk => hburst ?_, fun hk => hlockout ?_, fun hk => ?_, fun hk => ?_⟩
  · rw [hstart, if_neg hk.not_ge]
    exact Int.ofNat_lt.2 hk
  · rw [hstart, if_pos hk]
    omega
  · rw [hafter, if_neg hk.not_ge, Nat.cast_succ]
  · rw [hafter, if_pos hk]

end Sys2Proof.Machine

/-! PROOFS. The statements of 45_loop.md about one step of the sequencer (R222): the operation of a step by phase and `X` bit, and one
lemma that says which phase each operation leaves. -/

namespace Sys2Proof.Machine

/-! ### The operation of a step (30_encoding.md R75, R80) -/

theorem State.decodePh_phWord (s : State) : decodePh s.phWord = some s.phOp := by
  have hfetch := s.fetch_eq
  rw [State.fetch] at hfetch
  split at hfetch
  next hdecode => cases hfetch; exact hdecode
  next => cases hfetch

/-- The number of the step's PH word decodes to the operation that the step runs. -/
theorem State.decode_phWord (s : State) : decode .ph s.phWord.toNat = .ok s.phOp := Sys2Proof.decode_phWord s.decodePh_phWord

theorem State.phOp_align {s : State} (h : s.PHASE = .align) :
    s.phOp = if s.pinRead then .capAlignWait else .capAlignExit := by simp only [State.phOp, h]

theorem State.phOp_arm {s : State} (h : s.PHASE = .arm) :
    s.phOp = if s.pinRead then .capArmStart else .capArmWait := by simp only [State.phOp, h]

theorem State.phOp_measure {s : State} (h : s.PHASE = .measure) :
    s.phOp = if s.pinRead then .capMeasCount else .capMeasEnd := by simp only [State.phOp, h]

theorem State.phOp_compute {s : State} (h : s.PHASE = .compute) : s.phOp = .loopCompute := by
  simp only [State.phOp, h]

theorem State.phOp_emit {s : State} (h : s.PHASE = .emit) :
    s.phOp = if s.ECNT = 1 then .emitEnd else .emitHold := by simp only [State.phOp, h]

/-! ### The phase after an operation (R222) -/

/-- The phase that an operation leaves when it completes in phase `ph`: the last column of R222's table, where an operation that does
not write `PHASE` stays. -/
def phaseAfter (i : Instr) (ph : Phase) : Phase :=
  match i with
  | .capAlignWait | .emitEnd => .align
  | .capAlignExit | .capArmWait => .arm
  | .capArmStart => .measure
  | .capMeasEnd => .compute
  | .loopCompute => .emit
  | _ => ph

/-- A `CAP.MEAS.END` that completes leaves `COMPUTE`, its width being in range (40_capture.md R107, R109). -/
theorem measureEnd_next {p : Params} {s t : State} (h : measureEnd p s = .next t) :
    t.PHASE = .compute ∧ conv p s.NCNT ≤ p.rawMax := by
  rcases measureEnd_cases p s with ⟨hrange, hnext⟩ | ⟨-, hfault⟩
  · cases hnext.symm.trans h; exact ⟨rfl, hrange⟩
  · cases hfault.symm.trans h

theorem emitStart_PHASE {p : Params} {out : Int} {s t : State} (h : emitStart p out s = .next t) : t.PHASE = .emit := by
  rcases emitStart_cases p out s with ⟨-, hnext⟩ | ⟨-, hfault⟩
  · cases hnext.symm.trans h; rfl
  · cases hfault.symm.trans h

/-- A `LOOP.COMPUTE` that completes ends in `EmitStart`. -/
theorem loopCompute_PHASE {p : Params} {s t : State} (h : loopCompute p s = .next t) : t.PHASE = .emit := by
  obtain ⟨i, j, classified, scaled, -, -, -, -, heq⟩ := loopCompute_cases p s
  exact emitStart_PHASE (heq.symm.trans h)

/-- Only the two operations that can fault need their own argument: the others write the phase of R222, or none, in every state. -/
theorem exec_PHASE {i : Instr} {s t : State} (h : exec i s = .next t) : t.PHASE = phaseAfter i s.PHASE := by
  cases i
  case capMeasEnd =>
    obtain ⟨hphase, -⟩ := measureEnd_next (p := Config.params) h
    exact hphase
  case loopCompute => exact loopCompute_PHASE (p := Config.params) h
  all_goals cases h; rfl

/-! ### The moves of the sequencer (R222) -/

/-- With `rst` low, a step that goes on is its operation and the environment's move. -/
theorem step_next {s t : State} (hrst : s.rstAsserted = false) :
    step s = .next t ↔ ∃ u, exec s.phOp (s.lowerStrobe (phaseCycles Config.params s.PHASE)) = .next u ∧
      t = u.advance (phaseCycles Config.params s.PHASE) := by
  rw [step_run hrst, closeStep_next]

/-- One move of the sequencer: the step's word decodes to its operation, which alone decides the next phase. -/
theorem step_move {s t : State} {ph : Phase} {i : Instr} (hrst : s.rstAsserted = false) (hstep : step s = .next t)
    (hphase : s.PHASE = ph) (hop : s.phOp = i) : decode .ph s.phWord.toNat = .ok i ∧ t.PHASE = phaseAfter i ph := by
  subst hphase hop
  obtain ⟨u, hexec, rfl⟩ := (step_next hrst).1 hstep
  have hafter := exec_PHASE hexec
  exact ⟨s.decode_phWord, hafter⟩

/-- A step that runs `CAP.MEAS.END` and goes on has a width in range. -/
theorem step_measEnd_inRange {s t : State} (hrst : s.rstAsserted = false) (hstep : step s = .next t)
    (hop : s.phOp = .capMeasEnd) : conv Config.params s.NCNT ≤ 16383 := by
  obtain ⟨u, hexec, -⟩ := (step_next hrst).1 hstep
  rw [hop] at hexec
  obtain ⟨-, hrange⟩ := measureEnd_next (p := Config.params) hexec
  exact hrange

/-- Settles O30: each row of the table selects one operation, which decides the phase that follows. -/
theorem phaseMovesAsTheTable : Obligations.PhaseMovesAsTheTable := by
  intro s t hrst hstep
  refine ⟨fun hphase hpin => step_move hrst hstep hphase ?alignWait, fun hphase hpin => step_move hrst hstep hphase ?alignExit,
    fun hphase hpin => step_move hrst hstep hphase ?armWait, fun hphase hpin => step_move hrst hstep hphase ?armStart,
    fun hphase hpin => step_move hrst hstep hphase ?measCount, fun hphase hpin => ?measEnd,
    fun hphase => step_move hrst hstep hphase (State.phOp_compute hphase),
    fun hphase hcount => step_move hrst hstep hphase ?emitHold, fun hphase hlast => step_move hrst hstep hphase ?emitEnd⟩
  case alignWait => rw [State.phOp_align hphase, if_pos hpin]
  case alignExit => rw [State.phOp_align hphase, if_neg (ne_true_of_eq_false hpin)]
  case armWait => rw [State.phOp_arm hphase, if_neg (ne_true_of_eq_false hpin)]
  case armStart => rw [State.phOp_arm hphase, if_pos hpin]
  case measCount => rw [State.phOp_measure hphase, if_pos hpin]
  case measEnd =>
    have hop : s.phOp = .capMeasEnd := by rw [State.phOp_measure hphase, if_neg (ne_true_of_eq_false hpin)]
    obtain ⟨hdecode, hnext⟩ := step_move hrst hstep hphase hop
    exact ⟨hdecode, hnext, step_measEnd_inRange hrst hstep hop⟩
  case emitHold => rw [State.phOp_emit hphase, if_neg hcount.ne']
  case emitEnd => rw [State.phOp_emit hphase, if_pos hlast]

end Sys2Proof.Machine

/-! PROOFS. The statements of 30_encoding.md. A word of a format's width is split by a row's mask into the pattern's bits and the ignored
ones, so that the round trip, the row a word selects and the words of the map all come from two finite facts: the decoder answers only
a row that matches the word, and it answers every row that does. -/

namespace Sys2Proof

/-- Within the width of a format a word is its bits under a row's mask with its bits under the row's `x` marks. -/
theorem TableRow.and_mask_or_and_ignored {r : TableRow} {w : Nat} (hw : w < 2 ^ r.format.width) :
    (w &&& r.mask) ||| (w &&& r.ignored) = w := by
  refine Nat.eq_of_testBit_eq fun k => ?_
  by_cases hk : k < r.format.width
  · simp [TableRow.ignored, hk]
    cases w.testBit k <;> cases r.mask.testBit k <;> rfl
  · have habove : w.testBit k = false :=
      Nat.testBit_lt_two_pow (hw.trans_le (Nat.pow_le_pow_right (by decide) (not_lt.1 hk)))
    simp [habove]

/-- The bits a row ignores are outside its mask. -/
theorem TableRow.ignored_and_mask {r : TableRow} (hmask : r.mask < 2 ^ r.format.width) : r.ignored &&& r.mask = 0 := by
  refine Nat.eq_of_testBit_eq fun k => ?_
  by_cases hk : k < r.format.width
  · simp [TableRow.ignored, hk]
  · have habove : r.mask.testBit k = false :=
      Nat.testBit_lt_two_pow (hmask.trans_le (Nat.pow_le_pow_right (by decide) (not_lt.1 hk)))
    simp [habove]

theorem Instr.mask_lt (i : Instr) : i.row.mask < 2 ^ i.row.format.width := by cases i <;> decide

theorem Instr.pattern_and_mask (i : Instr) : i.row.pattern &&& i.row.mask = i.row.pattern := by cases i <;> rfl

theorem Instr.pattern_lt (i : Instr) : i.row.pattern < 2 ^ i.row.format.width := by cases i <;> decide

theorem Instr.ignored_lt (i : Instr) : i.row.ignored < 2 ^ i.row.format.width := by cases i <;> decide

/-- The word of an operation fits its format, whatever stands in its ignored bits. -/
theorem encodeWith_lt_width (i : Instr) (x : Nat) : encodeWith i x < 2 ^ i.format.width :=
  Laws.FitsItsFormat.encodeWith_lt i.pattern_lt i.ignored_lt x

/-- The word of an operation matches its row, whatever stands in its ignored bits. -/
theorem encodeWith_and_mask (i : Instr) (x : Nat) : encodeWith i x &&& i.row.mask = i.row.pattern := by
  rw [encodeWith, Nat.and_or_distrib_right, Nat.and_assoc, TableRow.ignored_and_mask i.mask_lt, i.pattern_and_mask]
  simp

/-- A word that matches a row is the word of the row's operation with the ignored bits of the word itself. -/
theorem encodeWith_of_matches {i : Instr} {w : Nat} (hw : w < 2 ^ i.row.format.width)
    (hmatch : w &&& i.row.mask = i.row.pattern) : encodeWith i w = w := by
  rw [encodeWith, ← hmatch, TableRow.and_mask_or_and_ignored hw]

/-- What is checked word by word: the operation selected, if any, has a row of the format that the word matches. -/
def selectsMatchingRow (f : Format) (w : Nat) : Bool :=
  (decodeFields f w).all fun i => decide (i.row.format = f ∧ w &&& i.row.mask = i.row.pattern)

/-- The decoder answers only operations whose row the word matches. -/
theorem selectsMatchingRow_of_lt {f : Format} {w : Nat} (hw : w < 2 ^ f.width) : selectsMatchingRow f w = true := by
  cases f
  case ph => exact (by decide : ∀ w < 16, selectsMatchingRow .ph w = true) w hw
  case cal => exact (by decide : ∀ w < 8, selectsMatchingRow .cal w = true) w hw
  case dsm => exact (by decide : ∀ w < 64, selectsMatchingRow .dsm w = true) w hw
  case pol => exact (by decide : ∀ w < 32, selectsMatchingRow .pol w = true) w hw
  case u => exact (by decide : ∀ w < 1, selectsMatchingRow .u w = true) w hw

/-- The decoder answers every operation whose row the word matches: the row's ignored bits do not decide. -/
theorem decodeFields_of_matches (i : Instr) :
    ∀ w < 2 ^ i.row.format.width, w &&& i.row.mask = i.row.pattern → decodeFields i.row.format w = some i := by
  cases i <;> decide

/-- A number that fits the format decodes to what its fields select. -/
theorem decode_eq_ok_iff {f : Format} {w : Nat} {i : Instr} :
    decode f w = .ok i ↔ w < 2 ^ f.width ∧ decodeFields f w = some i := by
  unfold decode
  split
  next hwide => simp [hwide.not_gt]
  next hfits =>
    have hlt : w < 2 ^ f.width := not_le.1 hfits
    cases decodeFields f w <;> simp [hlt]

/-- Settles O2: a row that the word selects is one it matches, and one it matches is selected. -/
theorem wordSelectsTheRowItMatches : Obligations.WordSelectsTheRowItMatches := by
  intro f w i hw
  rw [decode_eq_ok_iff]
  constructor
  · rintro ⟨-, hselects⟩
    have hmatch := selectsMatchingRow_of_lt hw
    rw [selectsMatchingRow, hselects] at hmatch
    simpa using hmatch
  · rintro ⟨rfl, hmatch⟩
    exact ⟨hw, decodeFields_of_matches i w hw hmatch⟩

/-- The decoder reads every operation back from its word, whatever stands in the bits its row ignores. -/
theorem decode_encodeWith (i : Instr) (x : Nat) : decode i.format (encodeWith i x) = .ok i :=
  (wordSelectsTheRowItMatches i.format (encodeWith i x) i (encodeWith_lt_width i x)).2 ⟨rfl, encodeWith_and_mask i x⟩

/-- Settles O1: the word of an operation matches its row, and a word that matches a row is the word of the row's operation. -/
theorem decodeAgreesWithEncode : Obligations.DecodeAgreesWithEncode := by
  refine ⟨decode_encodeWith, fun f w i hdecode => ?_⟩
  obtain ⟨hw, -⟩ := decode_eq_ok_iff.1 hdecode
  obtain ⟨rfl, hmatch⟩ := (wordSelectsTheRowItMatches f w i hw).1 hdecode
  exact ⟨rfl, encodeWith_of_matches hw hmatch⟩

/-- A word of a format's width selects an operation exactly when it is legal (30_encoding.md R84, R86). -/
theorem isSome_decodeFields {f : Format} {w : Nat} (hw : w < 2 ^ f.width) : (decodeFields f w).isSome = wordLegal f w := by
  cases f
  case ph => exact (by decide : ∀ w < 16, (decodeFields .ph w).isSome = wordLegal .ph w) w hw
  case cal => exact (by decide : ∀ w < 8, (decodeFields .cal w).isSome = wordLegal .cal w) w hw
  case dsm => exact (by decide : ∀ w < 64, (decodeFields .dsm w).isSome = wordLegal .dsm w) w hw
  case pol => exact (by decide : ∀ w < 32, (decodeFields .pol w).isSome = wordLegal .pol w) w hw
  case u => exact (by decide : ∀ w < 1, (decodeFields .u w).isSome = wordLegal .u w) w hw

theorem wordLegal_lt {f : Format} {w : Nat} (h : wordLegal f w = true) : w < 2 ^ f.width := by
  unfold wordLegal at h
  obtain ⟨hfits, -⟩ := (Bool.and_eq_true_iff ..).1 h
  exact of_decide_eq_true hfits

/-- Settles O3: the width is tested first, and then a word selects an operation exactly when it is legal. -/
theorem reservedWordsAreIllegalCodes : Obligations.ReservedWordsAreIllegalCodes := by
  refine fun f w => ⟨fun hlegal => ?legal, fun hw hreserved => ?reserved, fun hwide => if_pos hwide⟩
  case legal =>
    have hw := wordLegal_lt hlegal
    rw [← isSome_decodeFields hw, Option.isSome_iff_exists] at hlegal
    obtain ⟨i, hi⟩ := hlegal
    exact ⟨i, decode_eq_ok_iff.2 ⟨hw, hi⟩⟩
  case reserved =>
    rw [← isSome_decodeFields hw, Option.isSome_eq_false_iff, Option.isNone_iff_eq_none] at hreserved
    rw [decode, if_neg hw.not_ge, hreserved]

/-- Settles O4: each is the word of its operation, with the ignored bits as written. -/
theorem wordsOfEachFormatDecode : Obligations.WordsOfEachFormatDecode :=
  ⟨decode_encodeWith .capArmStart 0, decode_encodeWith .loopCompute 1, decode_encodeWith .emitEnd 0,
    decode_encodeWith .calAcc 0, decode_encodeWith .calHold 3, decode_encodeWith .dsmFwdStop 0,
    decode_encodeWith .dsmIdleRev 0, decode_encodeWith .polFwdLockout 0, decode_encodeWith .polPassBrk 1,
    decode_encodeWith .durInc 0⟩

end Sys2Proof

/-! PROOFS. What `LOOP.COMPUTE` computes, in closed form: one trace line, written from the lines of `Iterate` (45_loop.md R224), that the
operations of R223 compute in every state. `Iterate` is that line with its two tests and the duration counted, so the statements about
`LOOP.COMPUTE` and about the iteration level rest on the same line. -/

namespace Sys2Proof.Machine

/-! ### The line of an iteration, before `DUR.INC` (45_loop.md R224) -/

/-- The corrected width of an iteration (42_calibration.md R140). -/
def Regs.width (r : Regs) (raw : Nat) : Int :=
  if r.S = .centering then (raw : Int) - 1500 else (raw : Int) - 1500 - r.OFF

/-- The calibration lines of `Iterate` in `Centering`, its state-machine lines in any other state. -/
def iterateClassify (r : Regs) (w : Int) : Regs × Instr :=
  if r.S = .centering then iterateCalibration r w else iterateDriving r w

/-- The line that an iteration computes, with the registers as they stand before `DUR.INC`, and before the tests that can end it in a
fault. -/
def loopLine (p : Params) (r : Regs) (raw : Nat) : Iteration :=
  let w := r.width raw
  let driven := iterateClassify r w
  let scaled := iteratePolicy p driven.1.S driven.1.B w
  { raw := raw, w := w, classOp := driven.2, polOp := scaled.2.2.2, v := scaled.1, out := scaled.1 + 1500
    IND := scaled.2.2.1, REAR := decide (driven.1.S = .braking ∨ driven.1.S = .reverse)
    regs := { driven.1 with B := scaled.2.1 } }

/-- The registers after `DUR.INC` (45_loop.md R225). -/
def Regs.count (p : Params) (r : Regs) : Regs := { r with D := min (r.D + 1) p.durMax }

/-- The line at the end of the iteration, after `DUR.INC` (30_encoding.md R90). -/
def Iteration.count (p : Params) (it : Iteration) : Iteration := { it with regs := it.regs.count p }

/-- `Iterate` is the line with its two tests and the duration counted. -/
theorem iterate_eq (p : Params) (r : Regs) (raw : Nat) :
    iterate p r raw =
      if p.rawMax < raw then .error (.captureRange raw)
      else if (loopLine p r raw).out < 0 then .error (.emitRange (loopLine p r raw).out)
      else .ok ((loopLine p r raw).count p) := rfl

theorem iterate_eq_ok_iff {p : Params} {r : Regs} {raw : Nat} {it : Iteration} :
    iterate p r raw = .ok it ↔ raw ≤ p.rawMax ∧ 0 ≤ (loopLine p r raw).out ∧ it = (loopLine p r raw).count p := by
  rw [iterate_eq]
  split_ifs with hraw hout
  · simp [hraw]
  · simp [hout]
  · simp [not_lt.1 hraw, not_lt.1 hout, eq_comm]

/-- `Iterate` faults in `CaptureRange` above `RAW_MAX`, and else in `EmitRange` at a negative output width. -/
theorem iterate_eq_error_iff {p : Params} {r : Regs} {raw : Nat} {f : Fault} :
    iterate p r raw = .error f ↔
      (p.rawMax < raw ∧ f = .captureRange raw) ∨
        (raw ≤ p.rawMax ∧ (loopLine p r raw).out < 0 ∧ f = .emitRange (loopLine p r raw).out) := by
  rw [iterate_eq]
  split_ifs with hraw hout
  · simp [hraw, eq_comm]
  · simp [hraw, not_lt.1 hraw, hout, eq_comm]
  · simp [hraw, hout]

/-! ### The operations of `LOOP.COMPUTE` compute that line (45_loop.md R223) -/

/-- The state with these four architectural registers. -/
def State.withRegs (s : State) (r : Regs) : State := { s with S := r.S, D := r.D, OFF := r.OFF, B := r.B }

/-- The test order of 42_calibration.md R142 is that of `Iterate`, and each operation has the effect of its branch. -/
theorem classify_calOp (s : State) :
    (iterateCalibration s.regs s.w).2 = calOp s.D s.w ∧
      classify (calOp s.D s.w) s = some (s.withRegs (iterateCalibration s.regs s.w).1) := by
  by_cases hw : s.w < -1500 ∨ 1500 < s.w
  case pos => simp [calOp, iterateCalibration, hw, classify, calHold, State.withRegs, State.regs]
  by_cases hend : 20 ≤ s.D
  case pos => simp [calOp, iterateCalibration, hw, hend, classify, calDone, State.enter, State.withRegs, State.regs]
  by_cases hstart : 10 ≤ s.D
  case pos => simp [calOp, iterateCalibration, hw, hend, hstart, classify, calAcc, State.withRegs, State.regs]
  case neg => simp [calOp, iterateCalibration, hw, hend, hstart, classify, calSettle, State.withRegs, State.regs]

/-- The state-machine lines of `Iterate` name the operation of their row. -/
theorem iterateDriving_op (r : Regs) (w : Int) : (iterateDriving r w).2 = (iterateNext r.S r.D w).2 := by
  rw [iterateDriving]
  split <;> rfl

/-- The state-machine lines of `Iterate` write what entering a state, or staying in it, writes. -/
theorem withRegs_iterateDriving (s : State) :
    s.withRegs (iterateDriving s.regs s.w).1 =
      if (iterateNext s.S s.D s.w).1 = s.S then s else s.enter (iterateNext s.S s.D s.w).1 := by
  by_cases hsame : (iterateNext s.S s.D s.w).1 = s.S <;>
    simp [iterateDriving, State.regs, State.withRegs, State.enter, hsame]

/-- The second line of `LOOP.COMPUTE` selects the operation that `Iterate` names, and it writes the registers that `Iterate`
computes. -/
theorem classify_iterateClassify (s : State) :
    s.fetchClassify = .ok (iterateClassify s.regs s.w).2 ∧
      classify (iterateClassify s.regs s.w).2 s = some (s.withRegs (iterateClassify s.regs s.w).1) := by
  by_cases hS : s.S = .centering
  · obtain ⟨hop, hclassify⟩ := classify_calOp s
    rw [State.fetchClassify, if_pos hS, decodeCal_calWord, iterateClassify, if_pos (show s.regs.S = _ from hS), hop]
    exact ⟨rfl, hclassify⟩
  · have hline : iterateClassify s.regs s.w = iterateDriving s.regs s.w := if_neg hS
    have hop : (iterateDriving s.regs s.w).2 = (iterateNext s.S s.D s.w).2 := iterateDriving_op s.regs s.w
    rw [State.fetchClassify, if_neg hS, decodeDsm_dsmWord hS, hline, hop, withRegs_iterateDriving, classify_iterateNext hS]
    exact ⟨rfl, rfl⟩

/-- The state with the scaled width, the burst counter and the indicator of the policy lines of `Iterate`. -/
def State.govern (s : State) (scaled : Int × Int × Indicator × Instr) : State :=
  { s with v := scaled.1, B := scaled.2.1, IND := scaled.2.2.1 }

/-- The policy lines of `Iterate` in `Forward`, with the scaling and the increment by name (44_scaling.md R192, R206). -/
theorem iteratePolicy_forward (p : Params) (B w : Int) :
    iteratePolicy p .forward B w =
      if p.fwdFull ≤ w ∧ B < p.maxBurst then (w, binc p B, .off, .polFwdBurst)
      else (scale w 2 5, binc p B, .limited, if p.fwdFull ≤ w then .polFwdLockout else .polFwdCap) := by
  rw [scale, mul_comm]
  rfl

/-- The forward policies are told apart by `FULL` and `AVAIL` as the policy lines of `Iterate` are (44_scaling.md R199 to R201). -/
theorem policy_forward (p : Params) (s : State) :
    decodePol ⟨DrivingState.forward.code, full p s.w, avail p s.B⟩ = some (iteratePolicy p .forward s.B s.w).2.2.2 ∧
      policy p (iteratePolicy p .forward s.B s.w).2.2.2 s = some (s.govern (iteratePolicy p .forward s.B s.w)) := by
  by_cases hfull : p.fwdFull ≤ s.w <;> by_cases havail : s.B < p.maxBurst <;>
    simp [iteratePolicy_forward, decodePol, full, avail, hfull, havail, policy, polFwdBurst, polFwdCap, polFwdLockout,
      State.passWidth, State.scaleWidth, State.burstUp, State.indicate, State.govern]

/-- The fourth line of `LOOP.COMPUTE` selects the operation that `Iterate` names, and it writes what `Iterate` computes. -/
theorem policy_iteratePolicy (p : Params) (s : State) :
    decodePol (s.polWord p) = some (iteratePolicy p s.S s.B s.w).2.2.2 ∧
      policy p (iteratePolicy p s.S s.B s.w).2.2.2 s = some (s.govern (iteratePolicy p s.S s.B s.w)) := by
  rw [State.polWord]
  cases s.S
  case forward => exact policy_forward p s
  all_goals exact ⟨rfl, rfl⟩

/-- What the lines of `LOOP.COMPUTE` up to `EmitStart` leave: the registers, the transients and the outputs of a line. -/
def State.present (s : State) (it : Iteration) : State :=
  { s.withRegs it.regs with w := it.w, v := it.v, IND := it.IND, REAR := it.REAR }

/-- What `LOOP.COMPUTE` leaves: the registers and the outputs of a line, and its pulse begun. -/
def State.launch (s : State) (p : Params) (it : Iteration) : State :=
  { s.withRegs it.regs with IND := it.IND, REAR := it.REAR, ECNT := emitCount p it.out, ppmOut := true, PHASE := .emit,
                            w := 0, v := 0 }

theorem rearLight_eq (S : DrivingState) : rearLight S = decide (S = .braking ∨ S = .reverse) := by cases S <;> rfl

/-- The state that the classifying operation of an iteration leaves. -/
def State.classified (s : State) : State :=
  (s.latchWidth s.correctedWidth).withRegs (iterateClassify s.regs s.correctedWidth).1

/-- The state that the policy operation of an iteration leaves. -/
def State.scaled (s : State) (p : Params) : State :=
  s.classified.govern (iteratePolicy p s.classified.S s.classified.B s.classified.w)

/-- The two operations of an iteration, each selected by its word, with what they leave. -/
theorem loopLine_ops (p : Params) (s : State) :
    (s.latchWidth s.correctedWidth).fetchClassify = .ok (loopLine p s.regs s.RAWQ).classOp ∧
      classify (loopLine p s.regs s.RAWQ).classOp (s.latchWidth s.correctedWidth) = some s.classified ∧
      decodePol (s.classified.polWord p) = some (loopLine p s.regs s.RAWQ).polOp ∧
      policy p (loopLine p s.regs s.RAWQ).polOp s.classified = some (s.scaled p) := by
  obtain ⟨hfetch, hclassify⟩ := classify_iterateClassify (s.latchWidth s.correctedWidth)
  obtain ⟨hdecode, hpolicy⟩ := policy_iteratePolicy p s.classified
  exact ⟨hfetch, hclassify, hdecode, hpolicy⟩

theorem runClassify_eq (s : State) : runClassify (s.latchWidth s.correctedWidth) = .ok s.classified := by
  obtain ⟨hfetch, hclassify, -, -⟩ := loopLine_ops Config.params s
  simp only [runClassify, hfetch, hclassify]

theorem fetchPolicy_classified (p : Params) (s : State) :
    s.classified.fetchPolicy p = .ok (loopLine p s.regs s.RAWQ).polOp := by
  obtain ⟨-, -, hdecode, -⟩ := loopLine_ops p s
  simp only [State.fetchPolicy, hdecode]

theorem runPolicy_classified (p : Params) (s : State) : runPolicy p s.classified = .ok (s.scaled p) := by
  obtain ⟨-, -, -, hpolicy⟩ := loopLine_ops p s
  simp only [runPolicy, fetchPolicy_classified, hpolicy]

/-- The lines of `LOOP.COMPUTE` up to `EmitStart` always get through, and leave what the line says. -/
theorem computeOutputs_eq (p : Params) (s : State) : computeOutputs p s = .ok (s.present (loopLine p s.regs s.RAWQ)) := by
  have hrear : (s.scaled p).presentRear = s.present (loopLine p s.regs s.RAWQ) := by
    rw [State.presentRear, rearLight_eq]
    rfl
  simp only [computeOutputs, runClassify_eq, runPolicy_classified, hrear]

/-- `LOOP.COMPUTE` launches the pulse of its line, or raises `EmitRange` with a negative output width. -/
theorem loopCompute_eq (p : Params) (s : State) :
    loopCompute p s =
      if (loopLine p s.regs s.RAWQ).out < 0 then .fault (.emitRange (loopLine p s.regs s.RAWQ).out)
      else .next (s.launch p (loopLine p s.regs s.RAWQ)) := by
  simp only [loopCompute, computeOutputs_eq]
  rcases emitStart_cases p (s.present (loopLine p s.regs s.RAWQ)).outWidth
      (s.present (loopLine p s.regs s.RAWQ)).discardTransients with ⟨hout, hnext⟩ | ⟨hout, hfault⟩
  · rw [if_neg (show ¬ (loopLine p s.regs s.RAWQ).out < 0 from hout.not_gt), hnext]
    rfl
  · rw [if_pos (show (loopLine p s.regs s.RAWQ).out < 0 from hout), hfault]
    rfl

theorem loopCompute_eq_next_iff {p : Params} {s t : State} :
    loopCompute p s = .next t ↔ 0 ≤ (loopLine p s.regs s.RAWQ).out ∧ t = s.launch p (loopLine p s.regs s.RAWQ) := by
  rw [loopCompute_eq]
  split_ifs with hout
  · simp [hout]
  · simp [not_lt.1 hout, eq_comm]

/-- The trace line read off the operations of `LOOP.COMPUTE` is the line of `Iterate` before `DUR.INC`. -/
theorem computedLine_eq (p : Params) (s : State) : computedLine p s = some (loopLine p s.regs s.RAWQ) := by
  obtain ⟨hfetch, -, -, -⟩ := loopLine_ops p s
  have hrear : (s.scaled p).presentRear.REAR = (loopLine p s.regs s.RAWQ).REAR := rearLight_eq _
  simp only [computedLine, hfetch, runClassify_eq, fetchPolicy_classified, runPolicy_classified, hrear]
  rfl

end Sys2Proof.Machine

/-! PROOFS. The statements of 45_loop.md, 42_calibration.md, 43_state_machine.md and 44_scaling.md about `LOOP.COMPUTE`: each reads what it
says off the line that the operation computes (`loopCompute_eq`). -/

namespace Sys2Proof

/-! ### The numbers of `CAL`, `DSM` and `POL` words (30_encoding.md R76 to R78) -/

@[simp] theorem CalWord.ofNat_toNat (w : CalWord) : CalWord.ofNat w.toNat = w := by
  obtain ⟨plaus, geEnd, geStart⟩ := w
  cases plaus <;> cases geEnd <;> cases geStart <;> rfl

theorem CalWord.toNat_lt (w : CalWord) : w.toNat < 8 := by
  obtain ⟨plaus, geEnd, geStart⟩ := w
  have hplaus := Bool.toNat_le plaus
  have hend := Bool.toNat_le geEnd
  have hstart := Bool.toNat_le geStart
  simp only [CalWord.toNat]
  omega

@[simp] theorem DsmWord.ofNat_toNat (w : DsmWord) : DsmWord.ofNat w.toNat = w := by
  obtain ⟨state, cls, held⟩ := w
  have hstate := state.isLt
  have hcls := cls.isLt
  have hheld := Bool.toNat_le held
  have hfields : wordField (state.toNat * 8 + cls.toNat * 2 + held.toNat) 3 3 = state.toNat ∧
      wordField (state.toNat * 8 + cls.toNat * 2 + held.toNat) 1 2 = cls.toNat := by
    simp only [wordField]
    omega
  have hbit : wordBit (state.toNat * 8 + cls.toNat * 2 + held.toNat) 0 = held := by
    cases held <;> simp [wordBit, wordField] <;> omega
  simp [DsmWord.ofNat, DsmWord.toNat, hfields, hbit]

@[simp] theorem PolWord.ofNat_toNat (w : PolWord) : PolWord.ofNat w.toNat = w := by
  obtain ⟨state, isFull, isAvail⟩ := w
  have hstate := state.isLt
  have hfull := Bool.toNat_le isFull
  have havail := Bool.toNat_le isAvail
  have hfield : wordField (state.toNat * 4 + isFull.toNat * 2 + isAvail.toNat) 2 3 = state.toNat := by
    simp only [wordField]
    omega
  have hbits : wordBit (state.toNat * 4 + isFull.toNat * 2 + isAvail.toNat) 1 = isFull ∧
      wordBit (state.toNat * 4 + isFull.toNat * 2 + isAvail.toNat) 0 = isAvail := by
    cases isFull <;> cases isAvail <;> simp [wordBit, wordField] <;> omega
  simp [PolWord.ofNat, PolWord.toNat, hfield, hbits]

/-- Every `CAL` word is legal, so its number decodes to what its fields select (30_encoding.md R81). -/
theorem decode_calWord (w : CalWord) : decode .cal w.toNat = .ok (decodeCal w) :=
  decode_eq_ok_iff.2 ⟨w.toNat_lt, by simp [decodeFields]⟩

theorem decode_dsmWord {w : DsmWord} {i : Instr} (h : decodeDsm w = some i) : decode .dsm w.toNat = .ok i :=
  decode_eq_ok_iff.2 ⟨w.toNat_lt, by simpa [decodeFields] using h⟩

theorem decode_polWord {w : PolWord} {i : Instr} (h : decodePol w = some i) : decode .pol w.toNat = .ok i :=
  decode_eq_ok_iff.2 ⟨w.toNat_lt, by simpa [decodeFields] using h⟩

end Sys2Proof

namespace Sys2Proof.Machine

/-! ### The words of an iteration -/

theorem plausible_eq (w : Int) : plausible w = decide (-1500 ≤ w ∧ w ≤ 1500) := (Bool.decide_and _ _).symm

/-- The classifying lines leave the burst counter to the policy. -/
theorem iterateClassify_B (r : Regs) (w : Int) : (iterateClassify r w).1.B = r.B := by
  unfold iterateClassify
  split
  next => exact iterateCalibration_B r w
  next =>
    obtain ⟨-, -, hB⟩ := iterateDriving_regs r w
    exact hB

/-- In `Centering` the number of the `CAL` word decodes to the operation that the iteration runs. -/
theorem decode_cal_classOp (p : Params) {s : State} (hS : s.S = .centering) :
    decode .cal (CalWord.toNat ⟨decide (-1500 ≤ s.correctedWidth ∧ s.correctedWidth ≤ 1500), decide (20 ≤ s.D),
      decide (10 ≤ s.D)⟩) = .ok (loopLine p s.regs s.RAWQ).classOp := by
  obtain ⟨hfetch, -⟩ := loopLine_ops p s
  rw [State.fetchClassify, State.latchWidth_S, if_pos hS] at hfetch
  rw [← Except.ok.inj hfetch, ← plausible_eq]
  exact decode_calWord _

/-- After `Centering` the number of the `DSM` word decodes to the operation that the iteration runs. -/
theorem decode_dsm_classOp (p : Params) {s : State} (hS : s.S ≠ .centering) :
    decode .dsm (DsmWord.toNat ⟨s.S.code, (widthClass s.correctedWidth).code, decide (4 ≤ s.D)⟩) =
      .ok (loopLine p s.regs s.RAWQ).classOp := by
  obtain ⟨hfetch, -⟩ := loopLine_ops p s
  have hdecode := decodeDsm_dsmWord (s := s.latchWidth s.correctedWidth) hS
  rw [State.fetchClassify, State.latchWidth_S, if_neg hS, hdecode] at hfetch
  rw [← Except.ok.inj hfetch]
  exact decode_dsmWord hdecode

/-- The number of the `POL` word, on the new state and the old counter, decodes to the operation that the iteration runs. -/
theorem decode_pol_polOp (p : Params) (s : State) :
    decode .pol (PolWord.toNat ⟨s.classified.S.code, decide (p.fwdFull ≤ s.correctedWidth), decide (s.B < p.maxBurst)⟩) =
      .ok (loopLine p s.regs s.RAWQ).polOp := by
  obtain ⟨-, -, hdecode, -⟩ := loopLine_ops p s
  have hB : s.classified.B = s.B := iterateClassify_B s.regs s.correctedWidth
  rw [State.polWord, avail, hB] at hdecode
  exact decode_polWord hdecode

/-- Settles O22: the two operations of the line, each decoded from the number of its word, and the completion by the sign of the output
width. -/
theorem loopComputeRunsTheDecodedOperations : Obligations.LoopComputeRunsTheDecodedOperations := by
  rintro s w rfl
  obtain ⟨-, hclassify, -, hpolicy⟩ := loopLine_ops Config.params s
  refine ⟨(loopLine Config.params s.regs s.RAWQ).classOp, (loopLine Config.params s.regs s.RAWQ).polOp, s.classified,
    s.scaled Config.params, fun hS => decode_cal_classOp Config.params hS, fun hS => decode_dsm_classOp Config.params hS,
    exec_of_classify hclassify, decode_pol_polOp Config.params s, exec_of_policy hpolicy, fun hout => ?next, fun hout => ?fault⟩
  case next =>
    rw [exec_loopCompute, loopCompute_eq, if_neg (show ¬ (loopLine Config.params s.regs s.RAWQ).out < 0 from hout.not_gt)]
    simp only [State.launch, emitCount, Config.MICROS_PER_SECOND, Nat.cast_mul, Nat.cast_ofNat, mul_comm (1000000 : Int)]
    rfl
  case fault => exact (exec_loopCompute s).trans ((loopCompute_eq _ s).trans (if_pos hout))

/-! ### In `Centering` -/

/-- An implausible width holds the count (42_calibration.md R144). -/
theorem iterateCalibration_hold (r : Regs) {w : Int} (hw : w < -1500 ∨ 1500 < w) :
    iterateCalibration r w = ({ r with D := r.D - 1 }, .calHold) := by
  rw [iterateCalibration, if_pos hw, Nat.max_zero]

/-- A plausible width at the count of 20 completes the calibration (42_calibration.md R147). -/
theorem iterateCalibration_done {r : Regs} {w : Int} (hlow : -1500 ≤ w) (hhigh : w ≤ 1500) (hD : 20 ≤ r.D) :
    iterateCalibration r w = (⟨.idle, 0, quot r.OFF 10, r.B⟩, .calDone) := by
  rw [iterateCalibration, if_neg (by omega), if_pos hD]

/-- A plausible width at a count of 10 to 19 is accumulated (42_calibration.md R146). -/
theorem iterateCalibration_acc {r : Regs} {w : Int} (hlow : -1500 ≤ w) (hhigh : w ≤ 1500) (hstart : 10 ≤ r.D)
    (hend : r.D < 20) : iterateCalibration r w = ({ r with OFF := r.OFF + w }, .calAcc) := by
  rw [iterateCalibration, if_neg (by omega), if_neg hend.not_ge, if_pos hstart]

/-- A plausible width below the count of 10 writes nothing (42_calibration.md R145). -/
theorem iterateCalibration_settle {r : Regs} {w : Int} (hlow : -1500 ≤ w) (hhigh : w ≤ 1500) (hD : r.D < 10) :
    iterateCalibration r w = (r, .calSettle) := by
  rw [iterateCalibration, if_neg (by omega), if_neg (by omega), if_neg hD.not_ge]

/-- In `Centering` `LOOP.COMPUTE` completes and emits the raw width, as the policy, on `Centering` or on `Idle`, passes the width
through (42_calibration.md R152, 44_scaling.md R194, R195). -/
theorem loopCompute_centering {p : Params} {s : State} {c : Regs} {op : Instr} (hS : s.S = .centering)
    (hcal : iterateCalibration s.regs ((s.RAWQ : Int) - 1500) = (c, op)) (hc : c.S = .centering ∨ c.S = .idle) :
    loopCompute p s =
      .next { s.withRegs c with B := (iteratePolicy p c.S c.B (s.RAWQ - 1500)).2.1
                                IND := (iteratePolicy p c.S c.B (s.RAWQ - 1500)).2.2.1
                                REAR := false, ECNT := emitCount p s.RAWQ, ppmOut := true, PHASE := .emit, w := 0, v := 0 } := by
  have hw : s.regs.width s.RAWQ = s.RAWQ - 1500 := if_pos hS
  have hclassify : iterateClassify s.regs (s.RAWQ - 1500) = (c, op) := (if_pos hS).trans hcal
  have hpass : (iteratePolicy p c.S c.B ((s.RAWQ : Int) - 1500)).1 = s.RAWQ - 1500 := by
    rcases hc with hc | hc <;> rw [hc] <;> rfl
  have hrear : decide (c.S = .braking ∨ c.S = .reverse) = false := by
    rcases hc with hc | hc <;> rw [hc] <;> rfl
  have hout : ¬ (s.RAWQ : Int) < 0 := by omega
  simp [loopCompute_eq, loopLine, hw, hclassify, hpass, hrear, hout, State.launch, State.withRegs]

/-- While it stays in `Centering`, `LOOP.COMPUTE` writes what the calibration lines write and shows `SYNCING` (44_scaling.md R194). -/
theorem loopCompute_syncing {p : Params} {s : State} {c : Regs} {op : Instr} (hS : s.S = .centering)
    (hcal : iterateCalibration s.regs ((s.RAWQ : Int) - 1500) = (c, op)) (hc : c.S = .centering) :
    loopCompute p s =
      .next { s.withRegs c with IND := .syncing, REAR := false, ECNT := emitCount p s.RAWQ, ppmOut := true, PHASE := .emit,
                                w := 0, v := 0 } := by
  rw [loopCompute_centering hS hcal (.inl hc), hc]
  rfl

/-- Settles O23: the four branches of the calibration lines. -/
theorem centeringIteration : Obligations.CenteringIteration := by
  rintro s u hS rfl
  refine ⟨fun hraw => ?hold, fun hraw hD => ?settle, fun hraw hstart hend => ?acc, fun hraw hend => ?done⟩
  case hold =>
    have hcal := iterateCalibration_hold s.regs (w := (s.RAWQ : Int) - 1500) (by omega)
    exact loopCompute_syncing hS hcal hS
  case settle =>
    have hcal := iterateCalibration_settle (r := s.regs) (w := (s.RAWQ : Int) - 1500) (by omega) (by omega) hD
    exact loopCompute_syncing hS hcal hS
  case acc =>
    have hcal := iterateCalibration_acc (r := s.regs) (w := (s.RAWQ : Int) - 1500) (by omega) (by omega) hstart hend
    exact loopCompute_syncing hS hcal hS
  case done =>
    have hcal := iterateCalibration_done (r := s.regs) (w := (s.RAWQ : Int) - 1500) (by omega) (by omega) hend
    rw [exec_loopCompute, loopCompute_centering hS hcal (.inr rfl), quot_eq_tdiv]
    rfl

/-! ### After `Centering` -/

/-- After `Centering`, a width in the negative class leads to `Reverse` from `Idle` and `Reverse`, and to `Braking` from the other states
(43_state_machine.md R164, R169, R171, R176, R180). -/
theorem iterateNext_negative {w : Int} (hw : w ≤ -40) (S : DrivingState) (D : Nat) :
    (S = .idle ∨ S = .reverse → (iterateNext S D w).1 = .reverse) ∧
      (S = .forward ∨ S = .stopped ∨ S = .braking → (iterateNext S D w).1 = .braking) := by
  have hpos : ¬ 40 ≤ w := by omega
  cases S <;> simp [iterateNext, hw, hpos]

/-- After `Centering`, `LOOP.COMPUTE` restarts the duration exactly when it changes the state (43_state_machine.md R162). -/
theorem loopCompute_D {p : Params} {s t : State} (hS : s.S ≠ .centering) (h : loopCompute p s = .next t) :
    t.D = if t.S = s.S then s.D else 0 := by
  obtain ⟨-, rfl⟩ := loopCompute_eq_next_iff.1 h
  have hclassify : iterateClassify s.regs s.correctedWidth = iterateDriving s.regs s.correctedWidth := if_neg hS
  change (iterateClassify s.regs s.correctedWidth).1.D = if (iterateClassify s.regs s.correctedWidth).1.S = s.S then s.D else 0
  rw [hclassify, iterateDriving]
  by_cases hsame : (iterateNext s.regs.S s.regs.D s.correctedWidth).1 = s.regs.S
  · simp only [if_pos hsame]
    exact (if_pos rfl).symm
  · simp only [if_neg hsame]
    exact (if_neg hsame).symm

/-- Settles O24: the state by the class and the dwell, the duration by whether the state changed, and the offset as `LOOP.COMPUTE` keeps
it after `Centering`. -/
theorem drivingTable : Obligations.DrivingTable := by
  rintro s t w hS rfl hexec
  have hcompute : loopCompute Config.params s = .next t := hexec
  have htS := loopCompute_S hS hcompute
  rw [show s.correctedWidth = s.RAWQ - 1500 - s.OFF from if_neg hS] at htS
  obtain ⟨htOFF, -⟩ := loopCompute_after_centering hS hcompute
  refine ⟨fun hpos => htS.trans (iterateNext_positive hS s.D hpos), fun hneg => ?negative, fun hlow hhigh hD => ?early,
    fun hlow hhigh hD => ?held, loopCompute_D hS hcompute, htOFF⟩
  case negative => rw [htS]; exact iterateNext_negative hneg s.S s.D
  case early => rw [htS, iterateNext_nearCentre hlow hhigh, if_neg hD.not_ge]
  case held =>
    rw [htS, iterateNext_nearCentre hlow hhigh, if_pos hD]
    constructor
    · rintro (hstate | hstate | hstate) <;> rw [hstate, afterDwell]
    · rintro (hstate | hstate) <;> rw [hstate, afterDwell]

/-! ### The policy of the new state -/

/-- The line follows the policy of its new state on the counter it began with. -/
theorem loopLine_policy (p : Params) (r : Regs) (raw : Nat) :
    iteratePolicy p (loopLine p r raw).regs.S r.B (r.width raw) =
      ((loopLine p r raw).v, (loopLine p r raw).regs.B, (loopLine p r raw).IND, (loopLine p r raw).polOp) := by
  rw [← iterateClassify_B r (r.width raw)]
  rfl

/-- The scaled width, the burst counter and the indicator of the policy lines, by the new state (44_scaling.md R194 to R201). -/
theorem iteratePolicy_table {p : Params} {S : DrivingState} {B w v B' : Int} {ind : Indicator} {op : Instr}
    (h : iteratePolicy p S B w = (v, B', ind, op)) :
    (S = .centering → v = w ∧ B' = B ∧ ind = .syncing) ∧
      (S = .idle ∨ S = .stopped ∨ S = .braking → v = w ∧ B' = max (B - 1) 0 ∧ ind = .off) ∧
      (S = .reverse → v = Int.tdiv (w * p.revNum) p.revDen ∧ B' = max (B - 1) 0 ∧ ind = .limited) ∧
      (S = .forward → B' = binc p B ∧ (p.fwdFull ≤ w ∧ B < p.maxBurst → v = w ∧ ind = .off) ∧
        (w < p.fwdFull ∨ (p.maxBurst : Int) ≤ B → v = Int.tdiv (2 * w) 5 ∧ ind = .limited)) := by
  cases S
  case forward =>
    rw [iteratePolicy_forward, scale, quot_eq_tdiv, mul_comm w] at h
    split at h <;> cases h
    next hunscaled => simp [hunscaled]
    next hscaled => simp [hscaled]
  case reverse =>
    cases h
    simp [quot_eq_tdiv]
  all_goals
    cases h
    simp

/-- Settles O26: the line follows the policy of its new state, and what `LOOP.COMPUTE` leaves shows the line. -/
theorem policyOfTheNewState : Obligations.PolicyOfTheNewState := by
  rintro s t w rfl hexec
  obtain ⟨-, rfl⟩ := loopCompute_eq_next_iff.1 ((exec_loopCompute s).symm.trans hexec)
  obtain ⟨hcentering, hpass, hreverse, hforward⟩ := iteratePolicy_table (loopLine_policy Config.params s.regs s.RAWQ)
  have hcount {v : Int} (hv : (loopLine Config.params s.regs s.RAWQ).v = v) :
      (s.launch Config.params (loopLine Config.params s.regs s.RAWQ)).ECNT = emitCount Config.params (v + 1500) := by
    rw [← hv]
    rfl
  refine ⟨fun hS => ?centering, fun hS => ?pass, fun hS => ?reverse, fun hS => ?forward, decide_eq_true_iff⟩
  case centering =>
    obtain ⟨hv, hB, hind⟩ := hcentering hS
    exact ⟨hcount hv, hB, hind⟩
  case pass =>
    obtain ⟨hv, hB, hind⟩ := hpass hS
    exact ⟨hcount hv, hB, hind⟩
  case reverse =>
    obtain ⟨hv, hB, hind⟩ := hreverse hS
    exact ⟨hcount hv, hB, hind⟩
  case forward =>
    obtain ⟨hB, hunscaled, hscaled⟩ := hforward hS
    refine ⟨hB, fun hfull => ?_, fun hlimited => ?_⟩
    · obtain ⟨hv, hind⟩ := hunscaled hfull
      exact ⟨hcount hv, hind⟩
    · obtain ⟨hv, hind⟩ := hscaled hlimited
      exact ⟨hcount hv, hind⟩

/-! ### When `LOOP.COMPUTE` completes, and the agreement of the two levels -/

/-- A width below -1500 leads to `Braking` from `Forward`, `Stopped` and `Braking`, which passes it through: the output width is
negative. -/
theorem loopLine_out_of_braking {p : Params} {r : Regs} {raw : Nat}
    (hS : r.S = .forward ∨ r.S = .stopped ∨ r.S = .braking) (hraw : (raw : Int) < r.OFF) :
    (loopLine p r raw).out = raw - r.OFF := by
  have hne : r.S ≠ .centering := by rcases hS with hS | hS | hS <;> simp [hS]
  have hw : r.width raw = raw - 1500 - r.OFF := if_neg hne
  obtain ⟨-, hbraking⟩ := iterateNext_negative (w := r.width raw) (by omega) r.S r.D
  obtain ⟨hnew, -, -⟩ := iterateDriving_regs r (r.width raw)
  have hregs : (loopLine p r raw).regs.S = .braking := by
    have hclassify : iterateClassify r (r.width raw) = iterateDriving r (r.width raw) := if_neg hne
    rw [← hbraking hS, ← hnew, ← hclassify]
    rfl
  obtain ⟨-, hpass, -, -⟩ := iteratePolicy_table (loopLine_policy p r raw)
  obtain ⟨hv, -, -⟩ := hpass (.inr (.inr hregs))
  change (loopLine p r raw).v + 1500 = _
  omega

/-- Settles O27: the corrected width is not below -1500 in `Centering` and above the offset, so the line completes; below the offset,
the state that passes the width on raises the fault. -/
theorem loopComputeCompletesAboveTheOffset : Obligations.LoopComputeCompletesAboveTheOffset := by
  refine fun s => ⟨fun hoffset => ?completes, fun hS hraw => ?fault⟩
  case completes =>
    have hw : -1500 ≤ s.correctedWidth := by
      rw [State.correctedWidth, Config.CENTER]
      split
      next => omega
      next hS => have habove := hoffset.resolve_left hS; omega
    obtain ⟨t, ht⟩ := loopCompute_completes Config.params_wf hw
    obtain ⟨hout, rfl⟩ := loopCompute_eq_next_iff.1 ht
    exact ⟨_, ht, rfl, rfl, emitCount_pos Config.params hout, rfl, rfl, rfl, rfl, rfl, rfl, rfl, rfl⟩
  case fault =>
    have hout : (loopLine Config.params s.regs s.RAWQ).out = s.RAWQ - s.OFF := loopLine_out_of_braking hS hraw
    rw [exec_loopCompute, loopCompute_eq, hout, if_pos (show (s.RAWQ : Int) - s.OFF < 0 by omega)]

/-- Settles O28: where the width is in range, `Iterate` and `LOOP.COMPUTE` test the output width of the same line, and `DUR.INC` counts
its duration. -/
theorem loopComputeAgreesWithIterate : Obligations.LoopComputeAgreesWithIterate := by
  refine fun s hraw => ⟨fun it hit => ?iteration, fun f hf => ?fault⟩
  case iteration =>
    obtain ⟨-, hout, rfl⟩ := iterate_eq_ok_iff.1 hit
    exact ⟨_, _, loopCompute_eq_next_iff.2 ⟨hout, rfl⟩, exec_durInc _, rfl, rfl, rfl, rfl⟩
  case fault =>
    rcases iterate_eq_error_iff.1 hf with ⟨hrange, -⟩ | ⟨-, hout, rfl⟩
    · exact absurd hrange hraw.not_gt
    · rw [exec_loopCompute, loopCompute_eq, if_pos hout]

end Sys2Proof.Machine

/-! PROOFS. The statements of 40_capture.md and 41_emission.md about the two conversions (R108, R110, R121, R126) and about the operations
that end a capture and an emission, and those of 44_scaling.md about the eight policies: an equation for each operation. -/

namespace Sys2Proof.Machine

/-! ### The conversions (40_capture.md R108, 41_emission.md R121) -/

/-- The count of emission quanta as a division of integers. -/
theorem emitCount_eq (p : Params) (out : Int) : emitCount p out = out * p.fClkHz / (p.emitCpl * 1000000) + 1 := by
  rw [emitCount, Config.MICROS_PER_SECOND, Nat.cast_mul, Nat.cast_ofNat, mul_comm (1000000 : Int)]

/-- The converted width as the quotient of R108. -/
theorem conv_eq (p : Params) (n : Nat) : conv p n = n * p.capCpl * 1000000 / p.fClkHz := by
  rw [conv, Config.MICROS_PER_SECOND, mul_comm 1000000, mul_comm p.capCpl]

/-- A quotient rounded down and one more: more than the dividend, by at most the divisor. -/
theorem lt_mul_ediv_add_one (a : Int) {d : Int} (hd : 0 < d) : a < (a / d + 1) * d ∧ (a / d + 1) * d ≤ a + d := by
  have hlow := Int.ediv_mul_le a hd.ne'
  have hhigh := Int.lt_ediv_add_one_mul_self a hd
  rw [add_mul, one_mul] at hhigh ⊢
  exact ⟨hhigh, by omega⟩

/-- An emitted pulse is longer than requested, by at most one quantum (41_emission.md R126). -/
theorem emitCount_bounds {p : Params} (hp : p.wf = true) (out : Int) :
    out * p.fClkHz < emitCount p out * (p.emitCpl * 1000000) ∧
      emitCount p out * (p.emitCpl * 1000000) ≤ out * p.fClkHz + p.emitCpl * 1000000 := by
  obtain ⟨-, -, -, -, -, -, -, hemit, -⟩ := (Params.wf_iff p).1 hp
  rw [emitCount_eq]
  exact lt_mul_ediv_add_one _ (by omega)

/-- Settles O8: the count is the quotient of R121 and one more. -/
theorem emitCountIsLongerByAtMostOneQuantum : Obligations.EmitCountIsLongerByAtMostOneQuantum :=
  fun p out hp hout => ⟨emitCount_pos p hout, emitCount_bounds hp out⟩

/-- A captured width is not longer than its samples, and short of them by less than a microsecond (40_capture.md R108). -/
theorem conv_bounds {p : Params} (hp : p.wf = true) (n : Nat) :
    (conv p n : Int) * p.fClkHz ≤ (n : Int) * p.capCpl * 1000000 ∧
      (n : Int) * p.capCpl * 1000000 < (conv p n : Int) * p.fClkHz + p.fClkHz := by
  obtain ⟨-, -, -, -, -, hclk, -⟩ := (Params.wf_iff p).1 hp
  have hconv : (conv p n : Int) = (n : Int) * p.capCpl * 1000000 / p.fClkHz := by
    rw [conv_eq]
    push_cast
    rfl
  obtain ⟨hhigh, hlow⟩ := lt_mul_ediv_add_one ((n : Int) * p.capCpl * 1000000) (d := p.fClkHz) (by omega)
  rw [← hconv, add_mul, one_mul] at hhigh hlow
  exact ⟨by omega, hhigh⟩

/-- Settles O9: the bounds of the emission, of the sampling and of the capture, added up. -/
theorem roundTripWithinQuantisation : Obligations.RoundTripWithinQuantisation := by
  intro p out n hp _ hmore hless
  obtain ⟨hlonger, hquantum⟩ := emitCount_bounds hp out
  obtain ⟨hconvLe, hconvLt⟩ := conv_bounds hp n
  rw [← mul_assoc] at hlonger hquantum
  constructor <;> omega

/-! ### The operations that end a capture and an emission -/

theorem decode_capMeasEnd : decode .ph 0b0100 = .ok .capMeasEnd := decode_phWord (w := ⟨Phase.measure.code, false⟩) rfl

theorem decode_emitHold : decode .ph 0b1000 = .ok .emitHold := decode_phWord (w := ⟨Phase.emit.code, false⟩) rfl

theorem decode_emitEnd : decode .ph 0b1001 = .ok .emitEnd := decode_phWord (w := ⟨Phase.emit.code, true⟩) rfl

theorem exec_capMeasEnd (s : State) : exec .capMeasEnd s = measureEnd Config.params s := rfl

theorem exec_emitHold (s : State) : exec .emitHold s = .next { s with ECNT := s.ECNT - 1 } := rfl

theorem exec_emitEnd (s : State) :
    exec .emitEnd s = .next { s with ECNT := 0, ppmOut := false, D := min (s.D + 1) 255, PHASE := .align } := rfl

/-- Settles O14: the two outcomes of `CAP.MEAS.END`, told apart by the converted width. -/
theorem measureEndPresentsTheWidth : Obligations.MeasureEndPresentsTheWidth := by
  rintro s raw rfl
  rw [← conv_eq]
  refine ⟨decode_capMeasEnd, fun hraw => ?next, fun hraw => ?fault⟩
  all_goals
    rw [exec_capMeasEnd]
    rcases measureEnd_cases Config.params s with ⟨hrange, h⟩ | ⟨hrange, h⟩
  case next.inl => exact h
  case next.inr => exact absurd hraw hrange.not_ge
  case fault.inl => exact absurd hraw hrange.not_gt
  case fault.inr => exact h

/-- Settles O15: the word and the equation of each operation. -/
theorem emissionOperations : Obligations.EmissionOperations :=
  fun s => ⟨⟨decode_emitHold, exec_emitHold s⟩, ⟨decode_emitEnd, exec_emitEnd s⟩⟩

/-- Settles O21: the empty word is the word of `DUR.INC`, whose equation saturates at the spec's `DUR_MAX`. -/
theorem durationIncrementSaturates : Obligations.DurationIncrementSaturates :=
  fun s => ⟨decode_encodeWith .durInc 0, exec_durInc s⟩

/-! ### The eight policies (44_scaling.md R194 to R201) -/

theorem exec_polSync (s : State) : exec .polSync s = .next { s with v := s.w, IND := .syncing } := rfl

theorem exec_polPassIdle (s : State) :
    exec .polPassIdle s = .next { s with v := s.w, B := max (s.B - 1) 0, IND := .off } := rfl

theorem exec_polPassStop (s : State) :
    exec .polPassStop s = .next { s with v := s.w, B := max (s.B - 1) 0, IND := .off } := rfl

theorem exec_polPassBrk (s : State) :
    exec .polPassBrk s = .next { s with v := s.w, B := max (s.B - 1) 0, IND := .off } := rfl

theorem exec_polRev (s : State) :
    exec .polRev s = .next { s with v := scale s.w Config.params.revNum Config.params.revDen, B := max (s.B - 1) 0,
                                    IND := .limited } := rfl

theorem exec_polFwdBurst (s : State) :
    exec .polFwdBurst s = .next { s with v := s.w, B := binc Config.params s.B, IND := .off } := rfl

theorem exec_polFwdCap (s : State) :
    exec .polFwdCap s = .next { s with v := scale s.w 2 5, B := binc Config.params s.B, IND := .limited } := rfl

theorem exec_polFwdLockout (s : State) :
    exec .polFwdLockout s = .next { s with v := scale s.w 2 5, B := binc Config.params s.B, IND := .limited } := rfl

/-- Outside `Forward` the state alone selects the policy, whatever stands in the two other bits (30_encoding.md R83). -/
theorem decodePol_state (isFull isAvail : Bool) :
    decodePol ⟨0b000#3, isFull, isAvail⟩ = some .polSync ∧ decodePol ⟨0b001#3, isFull, isAvail⟩ = some .polPassIdle ∧
      decodePol ⟨0b010#3, isFull, isAvail⟩ = some .polRev ∧ decodePol ⟨0b100#3, isFull, isAvail⟩ = some .polPassStop ∧
      decodePol ⟨0b101#3, isFull, isAvail⟩ = some .polPassBrk := ⟨rfl, rfl, rfl, rfl, rfl⟩

/-- In `Forward` the width is tested first, and the allowance for a full width only (30_encoding.md R83). -/
theorem decodePol_forward (isAvail : Bool) :
    decodePol ⟨0b011#3, true, true⟩ = some .polFwdBurst ∧ decodePol ⟨0b011#3, false, isAvail⟩ = some .polFwdCap ∧
      decodePol ⟨0b011#3, true, false⟩ = some .polFwdLockout := ⟨rfl, rfl, rfl⟩

/-- Settles O19: the words and the equations of the four operations. -/
theorem passThroughPolicies : Obligations.PassThroughPolicies := by
  intro s isFull isAvail
  obtain ⟨hSync, hIdle, -, hStop, hBrk⟩ := decodePol_state isFull isAvail
  exact ⟨⟨hSync, exec_polSync s⟩, ⟨hIdle, exec_polPassIdle s⟩, ⟨hStop, exec_polPassStop s⟩, ⟨hBrk, exec_polPassBrk s⟩⟩

/-- Settles O20: the words and the equations of the four operations, with `scale` as the library's truncating division. -/
theorem scalingPolicies : Obligations.ScalingPolicies := by
  rintro s isFull isAvail up rfl
  obtain ⟨-, -, hRev, -, -⟩ := decodePol_state isFull isAvail
  obtain ⟨hBurst, hCap, hLockout⟩ := decodePol_forward isAvail
  have hrev : scale s.w Config.params.revNum Config.params.revDen =
      Int.tdiv (s.w * Config.params.revNum) Config.params.revDen := quot_eq_tdiv _ _
  have hfwd : scale s.w 2 5 = Int.tdiv (2 * s.w) 5 := by rw [scale, quot_eq_tdiv, mul_comm]
  refine ⟨⟨hRev, ?_⟩, ⟨hBurst, exec_polFwdBurst s⟩, ⟨hCap, ?_⟩, ⟨hLockout, ?_⟩⟩
  · rw [exec_polRev, hrev]
  · rw [exec_polFwdCap, hfwd]
    rfl
  · rw [exec_polFwdLockout, hfwd]
    rfl

end Sys2Proof.Machine

/-! PROOFS. The statements about the iteration level: what one iteration keeps and the ranges of its values (70_reset_and_hazards.md R291),
the calibration of 42_calibration.md (R144, R148), the recovery of the burst counter (44_scaling.md R203), and that `DUR_MAX` is seen in
the duration only (45_loop.md R225). -/

namespace Sys2Proof.Machine

/-! ### The widths of an iteration (R291) -/

/-- The four branches of the calibration lines (42_calibration.md R142). -/
theorem iterateCalibration_cases (r : Regs) (w : Int) :
    iterateCalibration r w = ({ r with D := r.D - 1 }, .calHold) ∨
      (-1500 ≤ w ∧ w ≤ 1500 ∧
        ((20 ≤ r.D ∧ iterateCalibration r w = (⟨.idle, 0, quot r.OFF 10, r.B⟩, .calDone)) ∨
          (10 ≤ r.D ∧ r.D < 20 ∧ iterateCalibration r w = ({ r with OFF := r.OFF + w }, .calAcc)) ∨
          (r.D < 10 ∧ iterateCalibration r w = (r, .calSettle)))) := by
  by_cases hw : w < -1500 ∨ 1500 < w
  · exact .inl (iterateCalibration_hold r hw)
  have hlow : -1500 ≤ w := by omega
  have hhigh : w ≤ 1500 := by omega
  refine .inr ⟨hlow, hhigh, ?_⟩
  rcases lt_or_ge r.D 10 with hD | hstart
  · exact .inr (.inr ⟨hD, iterateCalibration_settle hlow hhigh hD⟩)
  rcases lt_or_ge r.D 20 with hend | hend
  · exact .inr (.inl ⟨hstart, hend, iterateCalibration_acc hlow hhigh hstart hend⟩)
  · exact .inl ⟨hend, iterateCalibration_done hlow hhigh hend⟩

/-- The scaled width of the policy lines lies between the width and 0, the width included (44_scaling.md R205, R206). -/
theorem iteratePolicy_v_bounds {p : Params} (hp : p.wf = true) (S : DrivingState) (B w : Int) :
    min w 0 ≤ (iteratePolicy p S B w).1 ∧ (iteratePolicy p S B w).1 ≤ max w 0 := by
  obtain ⟨-, -, hnum, hle, -⟩ := (Params.wf_iff p).1 hp
  have hself : min w 0 ≤ w ∧ w ≤ max w 0 := ⟨min_le_left w 0, le_max_left w 0⟩
  cases S
  case forward =>
    rw [iteratePolicy_forward]
    split
    next => exact hself
    next => exact ⟨min_zero_le_scale (by decide) (by decide) (by decide) w,
      scale_le_max_zero (by decide) (by decide) (by decide) w⟩
  case reverse =>
    exact ⟨min_zero_le_scale (by omega) (by omega) (by omega) w, scale_le_max_zero (by omega) (by omega) (by omega) w⟩
  all_goals exact hself

/-- The policy lines keep the burst counter within its bounds (44_scaling.md R202). -/
theorem iteratePolicy_burst_bounds {p : Params} (hp : p.wf = true) (S : DrivingState) {B : Int} (w : Int) (hlow : 0 ≤ B)
    (hhigh : B ≤ 2 * (p.maxBurst : Int)) :
    0 ≤ (iteratePolicy p S B w).2.1 ∧ (iteratePolicy p S B w).2.1 ≤ 2 * (p.maxBurst : Int) := by
  obtain ⟨hburst, -⟩ := (Params.wf_iff p).1 hp
  have hdown : 0 ≤ max (B - 1) 0 ∧ max (B - 1) 0 ≤ 2 * (p.maxBurst : Int) := by omega
  cases S
  case forward =>
    have hup : 0 ≤ binc p B ∧ binc p B ≤ 2 * (p.maxBurst : Int) := ⟨binc_nonneg p hlow, binc_le_lock p B hburst⟩
    rw [iteratePolicy_forward]
    split <;> exact hup
  case centering => exact ⟨hlow, hhigh⟩
  all_goals exact hdown

/-- The corrected width of registers within their bounds: on the raw width in `Centering`, off by the offset after it. -/
theorem Regs.Inv.width_bounds {p : Params} {r : Regs} (h : r.Inv p) {raw : Nat} (hraw : raw ≤ 16383) :
    (r.S = .centering → -1500 ≤ r.width raw ∧ r.width raw ≤ 14883) ∧ -3000 ≤ r.width raw ∧ r.width raw ≤ 16383 := by
  rw [Regs.width]
  split
  next hS => exact ⟨fun _ => by omega, by omega⟩
  next hS =>
    obtain ⟨hlow, hhigh⟩ := abs_le.1 (h.offset hS)
    exact ⟨fun hcentering => absurd hcentering hS, by omega⟩

/-- After `Centering` the state-machine lines do not enter it (42_calibration.md R141). -/
theorem iterateNext_ne_centering {S : DrivingState} (hS : S ≠ .centering) (D : Nat) (w : Int) :
    (iterateNext S D w).1 ≠ .centering := by
  cases S
  case centering => exact absurd rfl hS
  all_goals
    simp only [iterateNext]
    split_ifs <;> decide

/-- The operation of an iteration is of format `CAL` in `Centering`, and of format `DSM` in any other state. -/
theorem iterateClassify_format (r : Regs) (w : Int) : (iterateClassify r w).2.format = .cal ↔ r.S = .centering := by
  by_cases hS : r.S = .centering
  · rw [iterateClassify, if_pos hS]
    refine iff_of_true ?_ hS
    rcases iterateCalibration_cases r w with h | ⟨-, -, ⟨-, h⟩ | ⟨-, -, h⟩ | ⟨-, h⟩⟩ <;> rw [h] <;> rfl
  · rw [iterateClassify, if_neg hS]
    refine iff_of_false ?_ hS
    rw [iterateDriving_op]
    cases hstate : r.S
    case centering => exact absurd hstate hS
    all_goals
      simp only [iterateNext]
      split_ifs <;> decide

/-- A line that ends in a moving state started outside `Centering`, and its state is the one of the state-machine lines. -/
theorem loopLine_S_of_driven {p : Params} {r : Regs} {raw : Nat} {S : DrivingState} (h : (loopLine p r raw).regs.S = S)
    (hS : S ≠ .centering ∧ S ≠ .idle) : r.S ≠ .centering ∧ (iterateNext r.S r.D (r.width raw)).1 = S := by
  change (iterateClassify r (r.width raw)).1.S = S at h
  by_cases hr : r.S = .centering
  · rw [iterateClassify, if_pos hr] at h
    rcases iterateCalibration_cases r (r.width raw) with hc | ⟨-, -, ⟨-, hc⟩ | ⟨-, -, hc⟩ | ⟨-, hc⟩⟩ <;> rw [hc] at h
    case inr.inl => exact absurd h.symm hS.2
    all_goals exact absurd (h.symm.trans hr) hS.1
  · rw [iterateClassify, if_neg hr] at h
    obtain ⟨hnew, -, -⟩ := iterateDriving_regs r (r.width raw)
    exact ⟨hr, hnew.symm.trans h⟩

/-- Only a width above the negative class leads to `Forward` (43_state_machine.md R161). -/
theorem width_of_forward {p : Params} {r : Regs} {raw : Nat} (h : (loopLine p r raw).regs.S = .forward) :
    -40 < r.width raw := by
  by_contra hneg
  obtain ⟨hr, hnext⟩ := loopLine_S_of_driven h (by decide)
  obtain ⟨hreverse, hbraking⟩ := iterateNext_negative (not_lt.1 hneg) r.S r.D
  rw [hnext] at hreverse hbraking
  cases hS : r.S <;> simp [hS] at hr hreverse hbraking

/-- Only a width below the positive class leads to `Reverse` (43_state_machine.md R161). -/
theorem width_of_reverse {p : Params} {r : Regs} {raw : Nat} (h : (loopLine p r raw).regs.S = .reverse) :
    r.width raw < 40 := by
  by_contra hpos
  obtain ⟨hr, hnext⟩ := loopLine_S_of_driven h (by decide)
  rw [iterateNext_positive hr r.D (not_lt.1 hpos)] at hnext
  cases hnext

/-- The scaled width and the output width of a line are in range (R291), the output width as far down as -1500. -/
theorem loopLine_out_bounds {p : Params} (hp : p.wf = true) {r : Regs} (h : r.Inv p) {raw : Nat} (hraw : raw ≤ 16383) :
    -3000 ≤ (loopLine p r raw).v ∧ (loopLine p r raw).v ≤ 16383 ∧ (loopLine p r raw).out = (loopLine p r raw).v + 1500 := by
  obtain ⟨-, hlow, hhigh⟩ := h.width_bounds hraw
  obtain ⟨hvlow, hvhigh⟩ := iteratePolicy_v_bounds hp (iterateClassify r (r.width raw)).1.S
    (iterateClassify r (r.width raw)).1.B (r.width raw)
  exact ⟨(le_min hlow (by decide)).trans hvlow, hvhigh.trans (max_le hhigh (by decide)), rfl⟩

/-- The line of an iteration that completes has its values in the ranges of R291. -/
theorem loopLine_inRange {p : Params} (hp : p.wf = true) {r : Regs} (h : r.Inv p) {raw : Nat} (hraw : raw ≤ p.rawMax)
    (hout : 0 ≤ (loopLine p r raw).out) : ((loopLine p r raw).count p).InRange p := by
  obtain ⟨-, -, hnum, -, hnum2, -, -, -, -, -, hmax⟩ := (Params.wf_iff p).1 hp
  have hraw' : raw ≤ 16383 := hraw.trans hmax
  obtain ⟨hcentering, hwidth⟩ := h.width_bounds hraw'
  obtain ⟨hvlow, hvhigh, houtv⟩ := loopLine_out_bounds hp h hraw'
  refine ⟨hraw', fun hcal => hcentering ((iterateClassify_format r (r.width raw)).1 hcal), hwidth, ⟨hvlow, hvhigh⟩,
    ⟨hout, ?out⟩, fun hS => ?forward, fun hS => ?reverse⟩
  case out =>
    change (loopLine p r raw).out ≤ _
    omega
  case forward =>
    have hw := width_of_forward (p := p) (r := r) (raw := raw) hS
    change -78 ≤ 2 * r.width raw ∧ 2 * r.width raw ≤ 32766
    omega
  case reverse =>
    have hw := width_of_reverse (p := p) (r := r) (raw := raw) hS
    change -6000 ≤ r.width raw * p.revNum ∧ r.width raw * p.revNum ≤ 78
    have hfactor : p.revNum = 1 ∨ p.revNum = 2 := by omega
    rcases hfactor with hfactor | hfactor <;> rw [hfactor] <;> omega

/-! ### The bounds of the registers (10_state.md R26, 42_calibration.md R149) -/

/-- The average of ten plausible deviations is plausible (42_calibration.md R149). -/
theorem abs_quot_ten_le {a : Int} (hlow : -15000 ≤ a) (hhigh : a ≤ 15000) : |quot a 10| ≤ 1500 := by
  rw [abs_le, quot]
  split <;> omega

/-- The calibration lines, with the duration counted, keep the bounds of the count and the offset. -/
theorem Regs.Inv.calibrate {p : Params} (hp : p.wf = true) {r : Regs} (h : r.Inv p) (hS : r.S = .centering) (w : Int) :
    ((iterateCalibration r w).1.S = .centering →
        min ((iterateCalibration r w).1.D + 1) p.durMax ≤ 20 ∧
          |(iterateCalibration r w).1.OFF| ≤ 1500 * ((min ((iterateCalibration r w).1.D + 1) p.durMax - 10 : Nat) : Int)) ∧
      ((iterateCalibration r w).1.S ≠ .centering → |(iterateCalibration r w).1.OFF| ≤ 1500) := by
  obtain ⟨-, -, -, -, -, -, -, -, hdur, -⟩ := (Params.wf_iff p).1 hp
  have hD := h.centeringDuration hS
  obtain ⟨hlow, hhigh⟩ := abs_le.1 (h.centeringSum hS)
  rcases iterateCalibration_cases r w with hc | ⟨hwlow, hwhigh, ⟨hend, hc⟩ | ⟨hstart, hend, hc⟩ | ⟨hsettle, hc⟩⟩ <;> rw [hc]
  case inr.inl =>
    exact ⟨fun hidle => absurd hidle (by simp), fun _ => abs_quot_ten_le (by omega) (by omega)⟩
  all_goals
    refine ⟨fun _ => ?_, fun hne => absurd hS hne⟩
    simp only [abs_le]
    omega

/-- The registers of a line, with the duration counted, are within their bounds. -/
theorem loopLine_keeps_inv {p : Params} (hp : p.wf = true) {r : Regs} (h : r.Inv p) (raw : Nat) :
    ((loopLine p r raw).regs.count p).Inv p := by
  obtain ⟨hlow, hhigh⟩ := h.burst
  have hburst := iteratePolicy_burst_bounds hp (iterateClassify r (r.width raw)).1.S (r.width raw)
    (B := (iterateClassify r (r.width raw)).1.B) (by rwa [iterateClassify_B]) (by rwa [iterateClassify_B])
  by_cases hS : r.S = .centering
  · have hclassify : iterateClassify r (r.width raw) = iterateCalibration r (r.width raw) := if_pos hS
    obtain ⟨hstays, hleaves⟩ := h.calibrate hp hS (r.width raw)
    rw [← hclassify] at hstays hleaves
    exact ⟨min_le_right _ _, hburst, fun hc => (hstays hc).1, fun hc => (hstays hc).2, hleaves⟩
  · have hclassify : iterateClassify r (r.width raw) = iterateDriving r (r.width raw) := if_neg hS
    obtain ⟨hnew, hOFF, -⟩ := iterateDriving_regs r (r.width raw)
    rw [← hclassify] at hnew hOFF
    have hne : (iterateClassify r (r.width raw)).1.S ≠ .centering := hnew ▸ iterateNext_ne_centering hS r.D (r.width raw)
    refine ⟨min_le_right _ _, hburst, fun hc => absurd hc hne, fun hc => absurd hc hne, fun _ => ?_⟩
    change |(iterateClassify r (r.width raw)).1.OFF| ≤ 1500
    rw [hOFF]
    exact h.offset hS

/-- Settles O53: an iteration that completes is the line, with its registers and its values in their bounds; one that ends in
`EmitRange` has a scaled width of at least -3000. -/
theorem iterateKeepsTheRanges : Obligations.IterateKeepsTheRanges := by
  refine fun p r raw hp h => ⟨fun it hit => ?completes, fun out hfault => ?fault⟩
  case completes =>
    obtain ⟨hraw, hout, rfl⟩ := iterate_eq_ok_iff.1 hit
    exact ⟨loopLine_keeps_inv hp h raw, loopLine_inRange hp h hraw hout, iterateClassify_format r (r.width raw)⟩
  case fault =>
    obtain ⟨-, -, -, -, -, -, -, -, -, -, hmax⟩ := (Params.wf_iff p).1 hp
    rcases iterate_eq_error_iff.1 hfault with ⟨-, hcode⟩ | ⟨hraw, hneg, hcode⟩
    · cases hcode
    · obtain ⟨hvlow, -, houtv⟩ := loopLine_out_bounds hp h (hraw.trans hmax)
      cases hcode
      omega

theorem Regs.reset_inv (p : Params) : Regs.reset.Inv p := by
  constructor <;> simp [Regs.reset]

/-- Every iteration of a run from registers within their bounds ends within them, with its values in range. -/
theorem runStimulus_inv {p : Params} (hp : p.wf = true) {r : Regs} (h : r.Inv p) {prog : List Stimulus} {it : Iteration}
    (hit : it ∈ (runStimulus p r prog).1) : it.regs.Inv p ∧ it.InRange p := by
  induction prog generalizing r with
  | nil => cases hit
  | cons stimulus rest ih =>
    cases stimulus with
    | reset => exact ih (Regs.reset_inv p) hit
    | pulse raw =>
      rw [runStimulus] at hit
      split at hit
      next => cases hit
      next first hfirst =>
        obtain ⟨hkeeps, -⟩ := iterateKeepsTheRanges p r raw hp h
        obtain ⟨hregs, hrange, -⟩ := hkeeps first hfirst
        rcases List.mem_cons.1 hit with rfl | hrest
        · exact ⟨hregs, hrange⟩
        · exact ih hregs hrest

/-- Settles O54: the reset registers are within the bounds, which every iteration keeps. -/
theorem runsStayInRange : Obligations.RunsStayInRange := by
  intro p prog it hp hdur hit
  obtain ⟨-, hburst, -⟩ := (Params.wf_iff p).1 hp
  obtain ⟨hregs, hrange⟩ := runStimulus_inv hp (Regs.reset_inv p) hit
  obtain ⟨hB, hBlock⟩ := hregs.burst
  refine ⟨hrange, hregs.duration.trans hdur, hB, hBlock, by omega, fun hS => ?_, hregs.offset⟩
  have hD := hregs.centeringDuration hS
  exact (hregs.centeringSum hS).trans (by omega)

/-! ### Calibration (42_calibration.md R144, R148) -/

/-- Settles O47: an implausible pulse holds the count, which the end-of-loop increment restores, and the policy of `Centering` passes
it through. -/
theorem implausiblePulseHoldsCalibration : Obligations.ImplausiblePulseHoldsCalibration := by
  intro p r raw _ hS hpos hdur himplausible hraw
  have hcal := iterateCalibration_hold r (w := (raw : Int) - 1500) (by omega)
  obtain ⟨it, hit, hout, hop, hregs⟩ := iterate_centering hS hraw hcal (.inl hS)
  have hheld : it.regs = r := by
    have hcount : min (r.D - 1 + 1) p.durMax = r.D := by omega
    simp only [hS, iteratePolicy, hcount] at hregs
    rw [hregs, ← hS]
  obtain ⟨hpolicy, -⟩ := iterate_policy hit
  obtain ⟨hsync, -⟩ := iteratePolicy_table hpolicy
  obtain ⟨-, -, hind⟩ := hsync (hheld ▸ hS)
  exact ⟨it, hit, hop, hheld, hout, hind⟩

/-- Settles O48: the first twenty of the pulses are counted, with the deviations after the tenth accumulated, and the last divides
their sum by 10. -/
theorem calibrationAveragesTenPulses : Obligations.CalibrationAveragesTenPulses := by
  intro p raws hp hlen hraws
  obtain ⟨first, last, rfl⟩ := (List.eq_nil_or_concat' raws).resolve_left (by rintro rfl; cases hlen)
  have hfirst : first.length = 20 := by simpa using hlen
  obtain ⟨tr, it, hrun, houts, -, -⟩ := runStimulus_calibration hp hfirst
    (fun raw hmem => hraws raw (List.mem_append_left _ hmem)) (hraws last (by simp))
  have hten : ((first ++ [last]).drop 10).take 10 = first.drop 10 := by
    rw [List.drop_append_of_le_length (by omega), List.take_append_of_le_length (by simp [hfirst]),
      List.take_of_length_le (by simp [hfirst])]
  rw [quot_eq_tdiv, deviationSum, ← hten] at hrun
  exact ⟨tr ++ [it], hrun, houts⟩

/-! ### The recovery of the burst counter (44_scaling.md R203) -/

/-- An iteration that ends outside `Forward` and `Centering` takes the counter down by one, clamped at 0 (44_scaling.md R193). -/
theorem iterate_recovers {p : Params} {r : Regs} {raw : Nat} {it : Iteration} (h : iterate p r raw = .ok it)
    (hS : it.regs.S ≠ .forward ∧ it.regs.S ≠ .centering) : it.regs.B = max (r.B - 1) 0 := by
  obtain ⟨hpolicy, -⟩ := iterate_policy h
  obtain ⟨-, hpass, hreverse, -⟩ := iteratePolicy_table hpolicy
  obtain ⟨hforward, hcentering⟩ := hS
  cases hstate : it.regs.S
  case centering => exact absurd hstate hcentering
  case forward => exact absurd hstate hforward
  case reverse => obtain ⟨-, hB, -⟩ := hreverse hstate; exact hB
  all_goals obtain ⟨-, hB, -⟩ := hpass (by simp [hstate]); exact hB

/-- Over a run of such iterations the counter comes down by one each, clamped at 0. -/
theorem runStimulus_recovers {p : Params} {r r' : Regs} {raws : List Nat} {tr : List Iteration} (hB : 0 ≤ r.B)
    (hrun : runStimulus p r (raws.map .pulse) = (tr, .ok r'))
    (hS : ∀ it ∈ tr, it.regs.S ≠ .forward ∧ it.regs.S ≠ .centering) : r'.B = max (r.B - raws.length) 0 := by
  induction raws generalizing r tr with
  | nil => cases hrun; simp [hB]
  | cons raw raws ih =>
    rw [List.map_cons, runStimulus] at hrun
    split at hrun
    next => cases hrun
    next it hit =>
      obtain ⟨rfl, hend⟩ := Prod.mk.inj hrun
      obtain ⟨hfirst, hrest⟩ := List.forall_mem_cons.1 hS
      have hdown := iterate_recovers hit hfirst
      rw [ih (r := it.regs) (by omega) (Prod.ext rfl hend) hrest, hdown, List.length_cons]
      omega

/-- Settles O51: the counter is `max (B - n) 0` after `n` iterations, which from the lock value is below `MAXBURST` from
`n = MAXBURST + 1` on. -/
theorem burstRecoversOneByOne : Obligations.BurstRecoversOneByOne := by
  intro p r r' raws tr hp hB hrun hS
  obtain ⟨hburst, -⟩ := (Params.wf_iff p).1 hp
  have hdown := runStimulus_recovers hB hrun hS
  refine ⟨hdown, fun hlock => ⟨?_, fun hlen => ?_⟩⟩ <;> rw [hdown, hlock] <;> omega

/-! ### `DUR_MAX` is seen in the duration only (45_loop.md R225) -/

/-- Registers of two runs that differ in `DUR_MAX`: alike but for a duration that is past every threshold in both. -/
structure Regs.Alike (a b : Regs) : Prop where
  registers : a.withoutDuration = b.withoutDuration
  dwell : min a.D 4 = min b.D 4
  centering : a.S = .centering → a.D = b.D ∧ a.D ≤ 20

theorem Regs.eq_of_withoutDuration {a b : Regs} (h : a.withoutDuration = b.withoutDuration) :
    a.S = b.S ∧ a.OFF = b.OFF ∧ a.B = b.B := by
  simp only [Regs.withoutDuration, Regs.mk.injEq] at h
  obtain ⟨hS, -, hOFF, hB⟩ := h
  exact ⟨hS, hOFF, hB⟩

theorem Regs.Alike.refl {r : Regs} (h : r.S = .centering → r.D ≤ 20) : r.Alike r := ⟨rfl, rfl, fun hS => ⟨rfl, h hS⟩⟩

/-- In `Centering` the registers of the two runs are the same. -/
theorem Regs.Alike.eq_of_centering {a b : Regs} (h : a.Alike b) (hS : a.S = .centering) : a = b := by
  obtain ⟨hD, -⟩ := h.centering hS
  obtain ⟨hS', hOFF, hB⟩ := Regs.eq_of_withoutDuration h.registers
  cases a
  cases b
  exact (Regs.mk.injEq ..).mpr ⟨hS', hD, hOFF, hB⟩

/-- The state machine reads the duration at its dwell threshold only. -/
theorem iterateNext_dwell {D D' : Nat} (h : min D 4 = min D' 4) (S : DrivingState) (w : Int) :
    iterateNext S D w = iterateNext S D' w := by
  have hheld : (4 ≤ D) = (4 ≤ D') := propext (by omega)
  simp only [iterateNext, hheld]

/-- While the calibration lines stay in `Centering`, the count does not pass 20 (42_calibration.md R149). -/
theorem iterateCalibration_D {r : Regs} (hD : r.D ≤ 20) {w : Int} (h : (iterateCalibration r w).1.S = .centering) :
    (iterateCalibration r w).1.D + 1 ≤ 20 := by
  rcases iterateCalibration_cases r w with hc | ⟨-, -, ⟨-, hc⟩ | ⟨-, hend, hc⟩ | ⟨hsettle, hc⟩⟩ <;> rw [hc] at h ⊢
  case inr.inl => cases h
  all_goals simp only; omega

/-- From alike registers outside `Centering` the state machine selects one operation, and either restarts the duration of both or keeps
that of each. -/
theorem Regs.Alike.driving {a b : Regs} (h : a.Alike b) (w : Int) :
    (iterateDriving a w).2 = (iterateDriving b w).2 ∧
      (iterateDriving a w).1.withoutDuration = (iterateDriving b w).1.withoutDuration ∧
      min (iterateDriving a w).1.D 4 = min (iterateDriving b w).1.D 4 := by
  obtain ⟨hS, hOFF, hB⟩ := Regs.eq_of_withoutDuration h.registers
  simp only [iterateDriving, iterateNext_dwell h.dwell, hS]
  split
  · exact ⟨rfl, h.registers, h.dwell⟩
  · exact ⟨rfl, by simp only [Regs.withoutDuration, hOFF, hB], rfl⟩

/-- From alike registers an iteration classifies alike, and its registers are alike again once the duration is counted. -/
theorem Regs.Alike.classify {a b : Regs} (h : a.Alike b) (w : Int) :
    (iterateClassify a w).2 = (iterateClassify b w).2 ∧
      (iterateClassify a w).1.withoutDuration = (iterateClassify b w).1.withoutDuration ∧
      min (iterateClassify a w).1.D 4 = min (iterateClassify b w).1.D 4 ∧
      ((iterateClassify a w).1.S = .centering →
        (iterateClassify a w).1.D = (iterateClassify b w).1.D ∧ (iterateClassify a w).1.D + 1 ≤ 20) := by
  by_cases hS : a.S = .centering
  · obtain ⟨-, hD⟩ := h.centering hS
    obtain rfl := h.eq_of_centering hS
    rw [iterateClassify, if_pos hS]
    exact ⟨rfl, rfl, rfl, fun hc => ⟨rfl, iterateCalibration_D hD hc⟩⟩
  · obtain ⟨hsame, -, -⟩ := Regs.eq_of_withoutDuration h.registers
    have hS' : b.S ≠ .centering := hsame ▸ hS
    rw [iterateClassify, if_neg hS, iterateClassify, if_neg hS']
    obtain ⟨hop, hregs, hdwell⟩ := h.driving w
    obtain ⟨hnew, -, -⟩ := iterateDriving_regs a w
    exact ⟨hop, hregs, hdwell, fun hc => absurd (hnew.symm.trans hc) (iterateNext_ne_centering hS a.D w)⟩

theorem Regs.Alike.width {a b : Regs} (h : a.Alike b) (raw : Nat) : a.width raw = b.width raw := by
  obtain ⟨hS, hOFF, -⟩ := Regs.eq_of_withoutDuration h.registers
  rw [Regs.width, Regs.width, hS, hOFF]

/-- From alike registers an iteration computes the same line but for the duration. -/
theorem Regs.Alike.line {a b : Regs} (h : a.Alike b) (p : Params) (raw : Nat) :
    (loopLine p a raw).withoutDuration = (loopLine p b raw).withoutDuration := by
  have hwidth := h.width raw
  obtain ⟨hop, hregs, -⟩ := h.classify (b.width raw)
  obtain ⟨hS, hOFF, hB⟩ := Regs.eq_of_withoutDuration hregs
  simp only [loopLine, Iteration.withoutDuration, Regs.withoutDuration, hwidth, hop, hS, hOFF, hB]

/-- After an iteration under saturation values of at least 20 the registers are alike again. -/
theorem Regs.Alike.counted {a b : Regs} (h : a.Alike b) {p q : Params} (hp : 20 ≤ p.durMax) (hq : 20 ≤ q.durMax) (raw : Nat)
    (hline : (loopLine p a raw).withoutDuration = (loopLine q b raw).withoutDuration) :
    ((loopLine p a raw).regs.count p).Alike ((loopLine q b raw).regs.count q) := by
  have hwidth := h.width raw
  obtain ⟨-, -, hdwell, hcentering⟩ := h.classify (a.width raw)
  rw [hwidth] at hdwell hcentering
  refine ⟨congrArg Iteration.regs hline, ?_, fun hc => ?_⟩
  · simp only [Regs.count, loopLine, hwidth]
    omega
  · simp only [Regs.count, loopLine, hwidth] at hc ⊢
    have hcount := hcentering hc
    omega

/-- From alike registers two runs under different saturation values of at least 20 complete the same iteration but for the duration,
or end in the same fault. -/
theorem Regs.Alike.iteration {a b : Regs} (h : a.Alike b) (p : Params) {m n : Nat} (hm : 20 ≤ m) (hn : 20 ≤ n) (raw : Nat) :
    (∃ f, iterate { p with durMax := m } a raw = .error f ∧ iterate { p with durMax := n } b raw = .error f) ∨
      ∃ it it', iterate { p with durMax := m } a raw = .ok it ∧ iterate { p with durMax := n } b raw = .ok it' ∧
        it.withoutDuration = it'.withoutDuration ∧ it.regs.Alike it'.regs := by
  have hline : (loopLine { p with durMax := m } a raw).withoutDuration =
      (loopLine { p with durMax := n } b raw).withoutDuration := h.line p raw
  have hout : (loopLine { p with durMax := m } a raw).out = (loopLine { p with durMax := n } b raw).out :=
    (congrArg Iteration.out hline :)
  rw [iterate_eq, iterate_eq, hout]
  split_ifs
  · exact .inl ⟨_, rfl, rfl⟩
  · exact .inl ⟨_, rfl, rfl⟩
  · exact .inr ⟨_, _, rfl, rfl, hline, h.counted hm hn raw hline⟩

/-- From alike registers the two runs have the same trace but for the duration, and end alike. -/
theorem runStimulus_alike (p : Params) {m n : Nat} (hm : 20 ≤ m) (hn : 20 ≤ n) (prog : List Stimulus) {a b : Regs}
    (h : a.Alike b) :
    (runStimulus { p with durMax := m } a prog).1.map Iteration.withoutDuration =
        (runStimulus { p with durMax := n } b prog).1.map Iteration.withoutDuration ∧
      (runStimulus { p with durMax := m } a prog).2.map Regs.withoutDuration =
        (runStimulus { p with durMax := n } b prog).2.map Regs.withoutDuration := by
  induction prog generalizing a b with
  | nil => exact ⟨rfl, congrArg Except.ok h.registers⟩
  | cons stimulus rest ih =>
    cases stimulus with
    | reset => exact ih (Regs.Alike.refl fun _ => Nat.zero_le 20)
    | pulse raw =>
      rcases h.iteration p hm hn raw with ⟨f, ha, hb⟩ | ⟨it, it', ha, hb, hline, hregs⟩
      · simp [runStimulus, ha, hb]
      · obtain ⟨htrace, hend⟩ := ih hregs
        simp [runStimulus, ha, hb, hline, htrace, hend]

/-- Settles O52: the reset registers are alike to themselves. -/
theorem durMaxIsUnobservable : Obligations.DurMaxIsUnobservable :=
  fun p _ _ prog _ ha hb => runStimulus_alike p ha hb prog (Regs.Alike.refl fun _ => Nat.zero_le 20)

end Sys2Proof.Machine

/-! PROOFS. The statements about one step of the sequencer: an equation for the step of each phase with `rst` low (45_loop.md R222), which
the statements about faults, frames and the ports rest on, and the invariant of 10_state.md R26. -/

namespace Sys2Proof.Machine

/-! ### The step of each phase (40_capture.md R101 to R107, 41_emission.md R123, R124, 45_loop.md R223) -/

/-- The state one capture quantum on, in phase `ph` with this count and this raw width; the strobe is high only on the way to `COMPUTE`
(40_capture.md R112). -/
def State.captured (s : State) (ph : Phase) (count raw : Nat) : State :=
  ({ s with PHASE := ph, NCNT := count, RAWQ := raw, rawStrobe := decide (ph = .compute) } : State).advance
    Config.params.capCpl

/-- The strobe of an earlier step is over by the end of a capture or emission quantum. -/
theorem lowerStrobe_phaseCycles {s : State} (h : s.PHASE ≠ .compute) :
    s.lowerStrobe (phaseCycles Config.params s.PHASE) = { s with rawStrobe := false } :=
  s.lowerStrobe_of_pos (phaseCycles_pos h)

theorem step_align {s : State} (hrst : s.rstAsserted = false) (h : s.PHASE = .align) :
    step s = .next (s.captured (if s.pinRead then .align else .arm) s.NCNT s.RAWQ) := by
  rw [step_run hrst, lowerStrobe_phaseCycles (by simp [h]), State.phOp_align h, h]
  cases s.pinRead <;> rfl

theorem step_arm_low {s : State} (hrst : s.rstAsserted = false) (h : s.PHASE = .arm) (hpin : s.pinRead = false) :
    step s = .next (s.captured .arm s.NCNT s.RAWQ) := by
  rw [step_run hrst, lowerStrobe_phaseCycles (by simp [h]), State.phOp_arm h, h, hpin]
  rfl

theorem step_arm_high {s : State} (hrst : s.rstAsserted = false) (h : s.PHASE = .arm) (hpin : s.pinRead = true) :
    step s = .next (s.captured .measure 1 s.RAWQ) := by
  rw [step_run hrst, lowerStrobe_phaseCycles (by simp [h]), State.phOp_arm h, h, hpin]
  rfl

theorem step_measure_high {s : State} (hrst : s.rstAsserted = false) (h : s.PHASE = .measure) (hpin : s.pinRead = true) :
    step s = .next (s.captured .measure (s.NCNT + 1) s.RAWQ) := by
  rw [step_run hrst, lowerStrobe_phaseCycles (by simp [h]), State.phOp_measure h, hpin, if_pos rfl, exec_capMeasCount]
  simp [closeStep, State.captured, State.advance, phaseCycles, h]

theorem step_measure_low {s : State} (hrst : s.rstAsserted = false) (h : s.PHASE = .measure) (hpin : s.pinRead = false) :
    step s =
      if 16383 < conv Config.params s.NCNT then .fault (.captureRange s.NCNT)
      else .next (s.captured .compute s.NCNT (conv Config.params s.NCNT)) := by
  rw [step_run hrst, lowerStrobe_phaseCycles (by simp [h]), State.phOp_measure h, hpin, if_neg Bool.false_ne_true,
    exec_capMeasEnd]
  rcases measureEnd_cases Config.params { s with rawStrobe := false } with ⟨hrange, hnext⟩ | ⟨hrange, hfault⟩
  · rw [hnext, if_neg (show ¬ 16383 < conv Config.params s.NCNT from hrange.not_gt), h]
    rfl
  · rw [hfault, if_pos (show 16383 < conv Config.params s.NCNT from hrange)]
    rfl

theorem step_compute {s : State} (hrst : s.rstAsserted = false) (h : s.PHASE = .compute) :
    step s =
      if (loopLine Config.params s.regs s.RAWQ).out < 0 then .fault (.emitRange (loopLine Config.params s.regs s.RAWQ).out)
      else .next (((s.lowerStrobe Config.params.tProc).launch Config.params (loopLine Config.params s.regs s.RAWQ)).advance
        Config.params.tProc) := by
  rw [step_run hrst, State.phOp_compute h, exec_loopCompute, loopCompute_eq, h]
  change closeStep _ (if (loopLine Config.params s.regs s.RAWQ).out < 0 then _ else _) = _
  split <;> rfl

theorem step_emit_hold {s : State} (hrst : s.rstAsserted = false) (h : s.PHASE = .emit) (hcount : s.ECNT ≠ 1) :
    step s = .next (({ s with ECNT := s.ECNT - 1, rawStrobe := false } : State).advance Config.params.emitCpl) := by
  rw [step_run hrst, lowerStrobe_phaseCycles (by simp [h]), State.phOp_emit h, if_neg hcount, h]
  rfl

theorem step_emit_end {s : State} (hrst : s.rstAsserted = false) (h : s.PHASE = .emit) (hcount : s.ECNT = 1) :
    step s = .next (({ s with ECNT := 0, ppmOut := false, D := min (s.D + 1) 255, PHASE := .align
                              rawStrobe := false } : State).advance Config.params.emitCpl) := by
  rw [step_run hrst, lowerStrobe_phaseCycles (by simp [h]), State.phOp_emit h, if_pos hcount, h]
  rfl

/-- What a capture step does, whichever it is: it moves the phase and the count, and it presents a raw width in range on the way to
`COMPUTE` only. -/
theorem step_capture {s t : State} (hrst : s.rstAsserted = false) (hphase : s.PHASE = .align ∨ s.PHASE = .arm ∨ s.PHASE = .measure)
    (hstep : step s = .next t) :
    ∃ ph count raw, t = s.captured ph count raw ∧ ph ≠ .emit ∧ (ph = .measure → 1 ≤ count) ∧
      ((ph ≠ .compute ∧ raw = s.RAWQ) ∨ (ph = .compute ∧ raw ≤ 16383)) := by
  rcases hphase with h | h | h
  · rw [step_align hrst h] at hstep
    cases hstep
    refine ⟨_, _, _, rfl, ?_⟩
    cases s.pinRead <;> simp
  · cases hpin : s.pinRead
    · rw [step_arm_low hrst h hpin] at hstep
      cases hstep
      exact ⟨_, _, _, rfl, by simp⟩
    · rw [step_arm_high hrst h hpin] at hstep
      cases hstep
      exact ⟨_, _, _, rfl, by simp⟩
  · cases hpin : s.pinRead
    · rw [step_measure_low hrst h hpin] at hstep
      split at hstep
      next => cases hstep
      next hrange =>
        cases hstep
        exact ⟨_, _, _, rfl, by simp, by simp, .inr ⟨rfl, not_lt.1 hrange⟩⟩
    · rw [step_measure_high hrst h hpin] at hstep
      cases hstep
      exact ⟨_, _, _, rfl, by simp⟩

/-- What an emission step does: it counts one quantum down, or ends the pulse and the iteration. -/
theorem step_emit {s t : State} (hrst : s.rstAsserted = false) (hphase : s.PHASE = .emit) (hstep : step s = .next t) :
    (s.ECNT ≠ 1 ∧ t = ({ s with ECNT := s.ECNT - 1, rawStrobe := false } : State).advance Config.params.emitCpl) ∨
      (s.ECNT = 1 ∧ t = ({ s with ECNT := 0, ppmOut := false, D := min (s.D + 1) 255, PHASE := .align
                                  rawStrobe := false } : State).advance Config.params.emitCpl) := by
  by_cases hcount : s.ECNT = 1
  · rw [step_emit_end hrst hphase hcount] at hstep
    cases hstep
    exact .inr ⟨hcount, rfl⟩
  · rw [step_emit_hold hrst hphase hcount] at hstep
    cases hstep
    exact .inl ⟨hcount, rfl⟩

/-- What `LOOP.COMPUTE` does as a step: it launches the pulse of its line. -/
theorem step_compute_next {s t : State} (hrst : s.rstAsserted = false) (hphase : s.PHASE = .compute) (hstep : step s = .next t) :
    0 ≤ (loopLine Config.params s.regs s.RAWQ).out ∧
      t = ((s.lowerStrobe Config.params.tProc).launch Config.params (loopLine Config.params s.regs s.RAWQ)).advance
        Config.params.tProc := by
  rw [step_compute hrst hphase] at hstep
  split at hstep
  next => cases hstep
  next hout => cases hstep; exact ⟨not_lt.1 hout, rfl⟩

/-! ### The operation of a step, and its faults (30_encoding.md R75, 60_exceptions.md R241 to R243) -/

theorem exec_ne_refused (i : Instr) (s : State) (r : Refusal) : exec i s ≠ .refused r := by
  cases i
  case capMeasEnd =>
    rw [exec_capMeasEnd]
    rcases measureEnd_cases Config.params s with ⟨-, h⟩ | ⟨-, h⟩ <;> rw [h] <;> nofun
  case loopCompute =>
    rw [exec_loopCompute, loopCompute_eq]
    split <;> nofun
  all_goals nofun

/-- Settles O29: the decoded operation is the step's own, and the step closes around its outcome. -/
theorem stepRunsTheDecodedOperation : Obligations.StepRunsTheDecodedOperation := by
  rintro s u hrst rfl
  refine ⟨⟨s.phOp, s.decode_phWord⟩, fun i hi => ?_⟩
  obtain rfl : s.phOp = i := Except.ok.inj (s.decode_phWord.symm.trans hi)
  refine ⟨fun t ht => (step_next hrst).2 ⟨t, ht, rfl⟩, fun f hf => ?_, exec_ne_refused s.phOp _⟩
  rw [step_run hrst, closeStep_fault]
  exact hf

theorem step_ne_refused (s : State) (r : Refusal) : step s ≠ .refused r := by
  intro h
  cases hrst : s.rstAsserted
  · rw [step_run hrst, closeStep_refused] at h
    exact exec_ne_refused _ _ _ h
  · obtain ⟨k, hk⟩ := State.rstAsserted_iff.1 hrst
    cases (step_reset hk).symm.trans h

/-- Settles O31: of the steps with `rst` low only two can fault, each by its own range test. -/
theorem stepStopsOnlyOutOfRange : Obligations.StepStopsOnlyOutOfRange := by
  refine ⟨fun _ _ _ _ => ⟨rfl, rfl, rfl⟩, fun s => ⟨step_ne_refused s, fun f hfault => ?_⟩⟩
  have hrst : s.rstAsserted = false := by
    refine Bool.eq_false_iff.2 fun hrst => ?_
    obtain ⟨k, hk⟩ := State.rstAsserted_iff.1 hrst
    cases (step_reset hk).symm.trans hfault
  refine ⟨hrst, ?_⟩
  cases hphase : s.PHASE
  case align => cases (step_align hrst hphase).symm.trans hfault
  case arm =>
    cases hpin : s.pinRead
    · cases (step_arm_low hrst hphase hpin).symm.trans hfault
    · cases (step_arm_high hrst hphase hpin).symm.trans hfault
  case measure =>
    cases hpin : s.pinRead
    · rw [step_measure_low hrst hphase hpin] at hfault
      split at hfault
      next hrange => cases hfault; exact .inl ⟨rfl, rfl, hrange, rfl⟩
      next => cases hfault
    · cases (step_measure_high hrst hphase hpin).symm.trans hfault
  case compute =>
    rw [step_compute hrst hphase] at hfault
    split at hfault
    next hout => cases hfault; exact .inr ⟨rfl, _, hout, rfl⟩
    next => cases hfault
  case emit =>
    by_cases hcount : s.ECNT = 1
    · cases (step_emit_end hrst hphase hcount).symm.trans hfault
    · cases (step_emit_hold hrst hphase hcount).symm.trans hfault

/-! ### What a step leaves unchanged (40_capture.md R112, 43_state_machine.md R183) -/

/-- Settles O32: a capture step moves the phase, the count and the raw width, and the strobe is high on the way to `COMPUTE` only. -/
theorem captureTouchesNoOtherRegister : Obligations.CaptureTouchesNoOtherRegister := by
  intro s t hrst hphase hstep
  obtain ⟨ph, count, raw, rfl, -, -, hraw⟩ := step_capture hrst hphase hstep
  refine ⟨rfl, rfl, rfl, rfl, rfl, ?_, decide_eq_true_iff⟩
  exact hraw.imp (fun ⟨_, hsame⟩ => hsame) (fun ⟨hcompute, _⟩ => hcompute)

/-- The edges of the state machine (43_state_machine.md R183). -/
theorem iterateNext_edges {S : DrivingState} (hS : S ≠ .centering) (D : Nat) (w : Int) {S' : DrivingState}
    (h : (iterateNext S D w).1 = S') :
    S' = S ∨ (S = .idle ∧ S' = .reverse) ∨ (S = .idle ∧ S' = .forward) ∨ (S = .reverse ∧ S' = .forward) ∨
      (S = .reverse ∧ S' = .idle) ∨ (S = .forward ∧ S' = .braking) ∨ (S = .forward ∧ S' = .stopped) ∨
      (S = .stopped ∧ S' = .forward) ∨ (S = .stopped ∧ S' = .braking) ∨ (S = .braking ∧ S' = .forward) ∨
      (S = .braking ∧ S' = .idle) := by
  subst h
  cases S
  case centering => exact absurd rfl hS
  all_goals
    simp only [iterateNext]
    split_ifs <;> decide

/-- Settles O35: the state is written in `LOOP.COMPUTE` only, in `Centering` by the calibration lines, which leave it for `Idle` only, and
after it by the state machine, along its edges. -/
theorem stateChangesOnlyAlongTheEdges : Obligations.StateChangesOnlyAlongTheEdges := by
  intro s t hrst hstep
  rcases step_S_OFF hrst hstep with ⟨hphase, -⟩ | ⟨-, hS, -⟩
  case inr => exact .inl hS
  obtain ⟨-, rfl⟩ := step_compute_next hrst hphase hstep
  change (iterateClassify s.regs s.correctedWidth).1.S = _ ∨ _
  by_cases hS : s.S = .centering
  · rw [iterateClassify, if_pos (show s.regs.S = .centering from hS)]
    rcases iterateCalibration_cases s.regs s.correctedWidth with hc | ⟨-, -, ⟨-, hc⟩ | ⟨-, -, hc⟩ | ⟨-, hc⟩⟩
    case inr.inl =>
      refine .inr ⟨hphase, .inl ⟨hS, ?_⟩⟩
      change (iterateClassify s.regs s.correctedWidth).1.S = _
      rw [iterateClassify, if_pos (show s.regs.S = .centering from hS), hc]
    all_goals rw [hc]; exact .inl rfl
  · obtain ⟨hnew, -, -⟩ := iterateDriving_regs s.regs s.correctedWidth
    have hclassify : iterateClassify s.regs s.correctedWidth = iterateDriving s.regs s.correctedWidth := if_neg hS
    rcases iterateNext_edges hS s.D s.correctedWidth (hnew.symm.trans (congrArg (·.1.S) hclassify.symm)) with hsame | hedge
    · exact .inl hsame
    · exact .inr ⟨hphase, .inr hedge⟩

/-! ### What a step does not read (20_memory.md R57, 10_state.md R25) -/

/-- The outcome with its next state, if there is one, changed by `f`. -/
def mapNext (f : State → State) : Result → Result
  | .next s => .next (f s)
  | .fault r => .fault r
  | .refused r => .refused r

/-- The state with other inputs lined up. -/
def State.withStimulus (s : State) (l : List Pins) : State := { s with stimulus := l }

/-- The state with other values in the transients. -/
def State.withTransients (s : State) (a b : Int) : State := { s with w := a, v := b }

/-- In `COMPUTE` and `EMIT` the operation of a step hands the lined-up inputs on unread. -/
theorem exec_phOp_withStimulus {s : State} (h : s.PHASE = .compute ∨ s.PHASE = .emit) (u : State) (l : List Pins) :
    exec s.phOp (u.withStimulus l) = mapNext (State.withStimulus · l) (exec s.phOp u) := by
  rcases h with h | h
  · rw [State.phOp_compute h, exec_loopCompute, exec_loopCompute, loopCompute_eq, loopCompute_eq]
    change (if (loopLine Config.params u.regs u.RAWQ).out < 0 then _ else _) = _
    split <;> rfl
  · rw [State.phOp_emit h]
    split <;> rfl

theorem State.rstAsserted_of_resetEdge {s : State} (h : s.resetEdge = none) : s.rstAsserted = false := by
  rw [State.rstAsserted, h]
  rfl

/-- Settles O33: in `COMPUTE` and `EMIT` the level at the head of the inputs takes no part in the operation, and the environment's move
drops it. -/
theorem inputUnseenOutsideCapture : Obligations.InputUnseenOutsideCapture := by
  intro s edge a b rest hphase
  have hop (l : List Pins) : (s.withStimulus l).phOp = s.phOp := by
    rcases hphase with h | h
    · rw [State.phOp_compute h, State.phOp_compute (s := s.withStimulus l) h]
    · rw [State.phOp_emit h, State.phOp_emit (s := s.withStimulus l) h]
      rfl
  change step (s.withStimulus (⟨edge, a⟩ :: rest)) = step (s.withStimulus (⟨edge, b⟩ :: rest))
  have hedge : (s.withStimulus (⟨edge, a⟩ :: rest)).resetEdge = (s.withStimulus (⟨edge, b⟩ :: rest)).resetEdge := rfl
  cases hreset : (s.withStimulus (⟨edge, a⟩ :: rest)).resetEdge with
  | some k => rw [step_reset hreset, step_reset (hedge ▸ hreset)]; rfl
  | none =>
    have hstep (x : Level) (hx : (s.withStimulus (⟨edge, x⟩ :: rest)).resetEdge = none) :
        step (s.withStimulus (⟨edge, x⟩ :: rest)) =
          closeStep (phaseCycles Config.params s.PHASE) (mapNext (State.withStimulus · (⟨edge, x⟩ :: rest))
            (exec s.phOp (s.lowerStrobe (phaseCycles Config.params s.PHASE)))) := by
      rw [step_run (State.rstAsserted_of_resetEdge hx), hop, ← exec_phOp_withStimulus hphase]
      rfl
    rw [hstep a hreset, hstep b (hedge ▸ hreset)]
    cases exec s.phOp (s.lowerStrobe (phaseCycles Config.params s.PHASE)) <;> rfl

/-- What the transients hold before an operation of the sequencer shows, if at all, in the transients after it. -/
theorem exec_phOp_withTransients (s u : State) (a b : Int) :
    mapNext (State.withTransients · 0 0) (exec s.phOp (u.withTransients a b)) =
      mapNext (State.withTransients · 0 0) (exec s.phOp u) := by
  cases h : s.PHASE
  case align => rw [State.phOp_align h]; split <;> rfl
  case arm => rw [State.phOp_arm h]; split <;> rfl
  case measure =>
    rw [State.phOp_measure h]
    split
    next => rfl
    next =>
      rw [exec_capMeasEnd, exec_capMeasEnd, measureEnd, measureEnd]
      change mapNext _ (if Config.params.rawMax < conv Config.params u.NCNT then _ else _) = _
      split <;> rfl
  case compute =>
    rw [State.phOp_compute h, exec_loopCompute, exec_loopCompute, loopCompute_eq, loopCompute_eq]
    rfl
  case emit => rw [State.phOp_emit h]; split <;> rfl

/-- The environment's move does not touch the transients. -/
theorem closeStep_mapNext (cycles : Nat) (r : Result) :
    mapNext (State.withTransients · 0 0) (closeStep cycles r) = closeStep cycles (mapNext (State.withTransients · 0 0) r) := by
  cases r <;> rfl

/-- The step from other transients answers the same but for the transients. -/
theorem step_withTransients (s : State) (a b : Int) :
    mapNext (State.withTransients · 0 0) (step (s.withTransients a b)) = mapNext (State.withTransients · 0 0) (step s) := by
  have hedge : (s.withTransients a b).resetEdge = s.resetEdge := rfl
  cases hreset : s.resetEdge with
  | some k => rw [step_reset hreset, step_reset (hedge.trans hreset)]; rfl
  | none =>
    have hrst : s.rstAsserted = false := State.rstAsserted_of_resetEdge hreset
    rw [step_run hrst, step_run (s := s.withTransients a b) hrst]
    rw [closeStep_mapNext, closeStep_mapNext, ← exec_phOp_withTransients s _ a b]
    rfl

/-- Settles O36: with the transients of the next state left out, the two steps answer the same. -/
theorem staleTransientsAreNotRead : Obligations.StaleTransientsAreNotRead := by
  intro s a b
  have hsame := step_withTransients s a b
  change (∀ t, step s = .next t → ∃ u, step (s.withTransients a b) = .next u ∧ u.withTransients 0 0 = t.withTransients 0 0) ∧
    ∀ f, step s = .fault f → step (s.withTransients a b) = .fault f
  refine ⟨fun t ht => ?next, fun f hf => ?fault⟩
  case next =>
    rw [ht] at hsame
    cases hstep : step (s.withTransients a b) <;> rw [hstep] at hsame <;> simp only [mapNext, reduceCtorEq] at hsame
    exact ⟨_, rfl, Host.Outcome.next.inj hsame⟩
  case fault =>
    rw [hf] at hsame
    cases hstep : step (s.withTransients a b) <;> rw [hstep] at hsame <;> simp only [mapNext, reduceCtorEq] at hsame
    exact hsame

/-! ### Reset at an edge of a step (70_reset_and_hazards.md R270) -/

/-- Settles O11: a step that a reset cuts short answers the reset registers, and the edge is taken up to the end of the step. -/
theorem resetFromAnyState : Obligations.ResetFromAnyState := by
  refine fun s k => ⟨fun hedge => step_reset hedge, fun level rest hstimulus => ?_⟩
  have hpins : s.pins.rst = some k := by simp only [State.pins, hstimulus]
  rw [State.resetEdge_eq_some]
  exact and_iff_right hpins

/-! ### The ports (20_memory.md R53, 30_encoding.md R72) -/

/-- The code of an indicator value, never the reserved one, is 0 exactly when the boolean view is off. -/
theorem Indicator.code_table (i : Indicator) :
    i.code ≠ 0b11#2 ∧ (indicatorOn i = true ↔ i ≠ .off) ∧ (indicatorOn i = true ↔ i.code ≠ 0b00#2) := by
  cases i <;> decide

/-- Settles O37: the raw width of a state with the invariant fits the port, and the other ports are the registers. -/
theorem portsShowTheRegisters : Obligations.PortsShowTheRegisters := by
  refine ⟨fun s hinv => ?_, rfl⟩
  have hraw : s.RAWQ % 2 ^ 16 = s.RAWQ := Nat.mod_eq_of_lt (hinv.rawWidth.trans_lt (by decide))
  obtain ⟨hreserved, hon, hcode⟩ := Indicator.code_table s.IND
  exact ⟨(BitVec.toNat_ofNat ..).trans hraw, congrArg Indicator.code, congrArg Indicator.code, congrArg Indicator.code,
    hreserved, hon, hcode, rfl, rfl, rfl⟩

/-! ### The invariant (10_state.md R26) -/

/-- Settles O38: every register is 0 or low, the burst counter within the lock, which is not negative. -/
theorem resetHasTheInvariant : Obligations.ResetHasTheInvariant := by
  constructor <;> simp [State.reset, State.countAtEnd, Config.burstLock]

/-- A reset in the middle of a run leaves the registers of the reset state, on which alone the invariant depends. -/
theorem inv_resetRegisters (s : State) (cycles : Nat) : (s.resetRegisters.advance cycles).Inv :=
  { resetHasTheInvariant with }

/-- Outside `EMIT` the registers of a state with the invariant are within the bounds of the iteration level. -/
theorem State.Inv.regs {s : State} (h : s.Inv) (hphase : s.PHASE ≠ .emit) : s.regs.Inv Config.params := by
  have hcount : s.countAtEnd = s.D := if_neg hphase
  refine ⟨h.duration, h.burst, fun hS => ?_, fun hS => ?_, h.offset⟩
  · exact hcount.symm.trans_le (h.centeringDuration hS)
  · have hsum := h.centeringSum hS
    rwa [hcount] at hsum

/-- A capture step keeps the invariant. -/
theorem State.Inv.capture {s : State} (h : s.Inv) (hphase : s.PHASE ≠ .emit) {ph : Phase} {count raw : Nat} (hph : ph ≠ .emit)
    (hcount : ph = .measure → 1 ≤ count) (hraw : raw ≤ 16383) : (s.captured ph count raw).Inv := by
  have hcountAtEnd : (s.captured ph count raw).countAtEnd = s.countAtEnd :=
    (if_neg hph).trans (if_neg hphase).symm
  have hlow : s.ppmOut = false := Bool.eq_false_iff.2 fun hhigh => hphase (h.output.1 hhigh)
  exact
    { duration := h.duration
      burst := h.burst
      centeringBurst := h.centeringBurst
      centeringDuration := fun hS => hcountAtEnd ▸ h.centeringDuration hS
      centeringSum := fun hS => hcountAtEnd ▸ h.centeringSum hS
      offset := h.offset
      rawWidth := hraw
      captureCount := hcount
      emissionCount := fun hemit => absurd hemit hph
      output := iff_of_false (by simp [State.captured, hlow]) hph
      strobe := fun hstrobe => .inl (of_decide_eq_true hstrobe)
      rear := h.rear
      transients := h.transients }

/-- `LOOP.COMPUTE` does not lengthen the duration; the end of the iteration does. -/
theorem loopLine_D_le (p : Params) (r : Regs) (raw : Nat) : (loopLine p r raw).regs.D ≤ r.D := by
  change (iterateClassify r (r.width raw)).1.D ≤ r.D
  rw [iterateClassify]
  split
  next => rcases iterateCalibration_cases r (r.width raw) with hc | ⟨-, -, ⟨-, hc⟩ | ⟨-, -, hc⟩ | ⟨-, hc⟩⟩ <;> rw [hc] <;> simp
  next =>
    rw [iterateDriving]
    split <;> simp

/-- In `Centering` the line leaves the burst counter as it was. -/
theorem loopLine_centering_B {p : Params} {r : Regs} {raw : Nat} (h : (loopLine p r raw).regs.S = .centering) :
    r.S = .centering ∧ (loopLine p r raw).regs.B = r.B := by
  obtain ⟨hsync, -⟩ := iteratePolicy_table (loopLine_policy p r raw)
  obtain ⟨-, hB, -⟩ := hsync h
  refine ⟨?_, hB⟩
  by_contra hS
  change (iterateClassify r (r.width raw)).1.S = .centering at h
  obtain ⟨hnew, -, -⟩ := iterateDriving_regs r (r.width raw)
  rw [iterateClassify, if_neg hS, hnew] at h
  exact iterateNext_ne_centering hS r.D (r.width raw) h

/-- The `LOOP.COMPUTE` of a step keeps the invariant: its registers, with the duration counted, are those of an iteration. -/
theorem State.Inv.compute {s : State} (h : s.Inv) (hphase : s.PHASE = .compute)
    (hout : 0 ≤ (loopLine Config.params s.regs s.RAWQ).out) :
    (((s.lowerStrobe Config.params.tProc).launch Config.params (loopLine Config.params s.regs s.RAWQ)).advance
      Config.params.tProc).Inv := by
  have hregs := loopLine_keeps_inv Config.params_wf (h.regs (by simp [hphase])) s.RAWQ
  have hD : (loopLine Config.params s.regs s.RAWQ).regs.D ≤ 255 := (loopLine_D_le _ _ _).trans h.duration
  have hcount (hS : (loopLine Config.params s.regs s.RAWQ).regs.S = .centering) :
      min ((loopLine Config.params s.regs s.RAWQ).regs.D + 1) 255 = (loopLine Config.params s.regs s.RAWQ).regs.D + 1 := by
    have hle : min ((loopLine Config.params s.regs s.RAWQ).regs.D + 1) 255 ≤ 20 := hregs.centeringDuration hS
    omega
  exact
    { duration := hD
      burst := hregs.burst
      centeringBurst := fun hS => by
        obtain ⟨hS', hB⟩ := loopLine_centering_B hS
        exact hB.trans (h.centeringBurst hS')
      centeringDuration := fun hS => (hcount hS).symm.trans_le (hregs.centeringDuration hS)
      centeringSum := fun hS => by
        have hsum := hregs.centeringSum hS
        rw [show ((loopLine Config.params s.regs s.RAWQ).regs.count Config.params).D = _ from hcount hS] at hsum
        exact hsum
      offset := hregs.offset
      rawWidth := h.rawWidth
      captureCount := nofun
      emissionCount := fun _ => emitCount_pos Config.params hout
      output := iff_of_true rfl rfl
      strobe := fun hstrobe => .inr ⟨rfl, of_decide_eq_true ((Bool.and_eq_true_iff ..).1 hstrobe).2⟩
      rear := decide_eq_true_iff
      transients := ⟨rfl, rfl⟩ }

/-- An emission quantum before the last keeps the invariant. -/
theorem State.Inv.emitHold {s : State} (h : s.Inv) (hphase : s.PHASE = .emit) (hcount : s.ECNT ≠ 1) :
    (({ s with ECNT := s.ECNT - 1, rawStrobe := false } : State).advance Config.params.emitCpl).Inv :=
  { h with
    emissionCount := fun _ => by
      have hpos := h.emissionCount hphase
      change 1 ≤ s.ECNT - 1
      omega
    strobe := nofun }

/-- The end of an iteration keeps the invariant: the duration counts the iteration that `EMIT` had not counted yet. -/
theorem State.Inv.emitEnd {s : State} (h : s.Inv) (hphase : s.PHASE = .emit) :
    (({ s with ECNT := 0, ppmOut := false, D := min (s.D + 1) 255, PHASE := .align
               rawStrobe := false } : State).advance Config.params.emitCpl).Inv := by
  have hcount : s.countAtEnd = s.D + 1 := if_pos hphase
  have hD (hS : s.S = .centering) : min (s.D + 1) 255 = s.countAtEnd := by
    have hle := h.centeringDuration hS
    omega
  exact
    { h with
      duration := min_le_right _ _
      centeringDuration := fun hS => (hD hS).trans_le (h.centeringDuration hS)
      centeringSum := fun hS => by
        have hsum := h.centeringSum hS
        rw [← hD hS] at hsum
        exact hsum
      captureCount := nofun
      emissionCount := nofun
      output := iff_of_false Bool.false_ne_true nofun
      strobe := nofun }

/-- Settles O39: a reset, a capture quantum, `LOOP.COMPUTE`, an emission quantum and the end of the iteration each keep the
invariant. -/
theorem stepKeepsTheInvariant : Obligations.StepKeepsTheInvariant := by
  intro s t hinv hstep
  cases hrst : s.rstAsserted
  case true =>
    obtain ⟨k, hk⟩ := State.rstAsserted_iff.1 hrst
    cases (step_reset hk).symm.trans hstep
    exact inv_resetRegisters s (k + 1)
  have hcapture (hphase : s.PHASE = .align ∨ s.PHASE = .arm ∨ s.PHASE = .measure) : t.Inv := by
    obtain ⟨ph, count, raw, rfl, hph, hcount, hraw⟩ := step_capture hrst hphase hstep
    refine hinv.capture (by rcases hphase with h | h | h <;> simp [h]) hph hcount ?_
    rcases hraw with ⟨-, rfl⟩ | ⟨-, hraw⟩
    · exact hinv.rawWidth
    · exact hraw
  cases hphase : s.PHASE
  case align => exact hcapture (.inl hphase)
  case arm => exact hcapture (.inr (.inl hphase))
  case measure => exact hcapture (.inr (.inr hphase))
  case compute =>
    obtain ⟨hout, rfl⟩ := step_compute_next hrst hphase hstep
    exact hinv.compute hphase hout
  case emit =>
    rcases step_emit hrst hphase hstep with ⟨hcount, rfl⟩ | ⟨-, rfl⟩
    · exact hinv.emitHold hphase hcount
    · exact hinv.emitEnd hphase

end Sys2Proof.Machine

/-! PROOFS. The statements about runs at the signal level. A run is put together from observed parts (`Observes`): the capture of a pulse,
one quantum at a time, `LOOP.COMPUTE`, and the quanta of an emission; each part says what the observer sees of it and which state it
leads to. -/

namespace Sys2Proof.Machine

/-! ### The observed run is the run (45_loop.md R228) -/

/-- No operation moves the clock. -/
theorem exec_clk {i : Instr} {s t : State} (h : exec i s = .next t) : t.clk = s.clk := by
  cases i
  case capMeasEnd =>
    rw [exec_capMeasEnd] at h
    rcases measureEnd_cases Config.params s with ⟨-, hnext⟩ | ⟨-, hfault⟩
    · cases hnext.symm.trans h; rfl
    · cases hfault.symm.trans h
  case loopCompute =>
    obtain ⟨-, rfl⟩ := loopCompute_eq_next_iff.1 ((exec_loopCompute s).symm.trans h)
    rfl
  all_goals cases h; rfl

/-- A step shows the ports once for each clock cycle it lasts. -/
theorem step_clk {s t : State} (h : step s = .next t) : t.clk = s.clk + (stepCycles s).length := by
  cases hrst : s.rstAsserted
  case true =>
    obtain ⟨k, hk⟩ := State.rstAsserted_iff.1 hrst
    cases (step_reset hk).symm.trans h
    rw [stepCycles_reset_length hk]
    rfl
  case false =>
    obtain ⟨u, hexec, rfl⟩ := (step_next hrst).1 h
    rw [stepCycles_length hrst, State.advance_clk, exec_clk hexec, State.lowerStrobe_clk]

theorem observe_outcome (k : Nat) (pending : Option Iteration) (s : State) : (observe k pending s).outcome = run k s := by
  induction k generalizing pending s with
  | zero => rfl
  | succ k ih =>
    cases h : step s with
    | next t => rw [observe_next k pending h, run_next k h]; exact ih _ t
    | fault f => rw [observe_fault k pending h, run_fault k h]
    | refused r => rw [observe_refused k pending h, run_refused k h]

theorem observe_cycles_length {k : Nat} (pending : Option Iteration) {s t : State} (h : run k s = .next t) :
    t.clk = s.clk + (observe k pending s).cycles.length := by
  induction k generalizing pending s with
  | zero => cases h; rfl
  | succ k ih =>
    cases hstep : step s with
    | next u =>
      rw [run_next k hstep] at h
      rw [observe_next k pending hstep, ih (underWay pending s) h, step_clk hstep, List.length_append, Nat.add_assoc]
    | fault f => cases (run_fault k hstep).symm.trans h
    | refused r => cases (run_refused k hstep).symm.trans h

/-- Settles O44: step by step, the observed run goes on as the run does and shows a cycle for each that the step lasts. -/
theorem observedRunIsTheRun : Obligations.ObservedRunIsTheRun :=
  fun k pending s => ⟨observe_outcome k pending s, fun _ => observe_cycles_length pending⟩

/-! ### Observed parts of a run -/

/-- `k` observed steps lead from `s` to `t`, and from the iteration `pending` under way to `pending'`; the observer sees these cycles and
has these iterations completed, whatever follows. -/
def Observes (k : Nat) (pending : Option Iteration) (s : State) (cycles : List PortLevels) (iterations : List Iteration)
    (pending' : Option Iteration) (t : State) : Prop :=
  ∀ l, observe (k + l) pending s =
    ⟨cycles ++ (observe l pending' t).cycles, iterations ++ (observe l pending' t).iterations, (observe l pending' t).outcome⟩

section Observes

variable {k l : Nat} {pending pending' pending'' : Option Iteration} {s t u : State} {cycles cycles' : List PortLevels}
  {iterations iterations' : List Iteration}

theorem Observes.refl (pending : Option Iteration) (s : State) : Observes 0 pending s [] [] pending s := by
  intro l
  rw [Nat.zero_add]
  rfl

theorem Observes.of_step (pending : Option Iteration) (h : step s = .next t) :
    Observes 1 pending s (stepCycles s) (completed pending s t) (underWay pending s) t := by
  intro l
  rw [Nat.add_comm]
  exact observe_next l pending h

theorem Observes.trans (h : Observes k pending s cycles iterations pending' t)
    (h' : Observes l pending' t cycles' iterations' pending'' u) :
    Observes (k + l) pending s (cycles ++ cycles') (iterations ++ iterations') pending'' u := by
  intro m
  rw [Nat.add_assoc, h (l + m), h' m, List.append_assoc, List.append_assoc]

/-- What the observer has when the run ends after the part. -/
theorem Observes.observe_eq (h : Observes k pending s cycles iterations pending' t) :
    observe k pending s = ⟨cycles, iterations, .next t⟩ := by
  simpa using h 0

theorem Observes.run_eq (h : Observes k pending s cycles iterations pending' t) : run k s = .next t := by
  rw [← observe_outcome k pending s, h.observe_eq]

/-- What the observer has when the step after the part faults. -/
theorem Observes.observe_fault_eq (h : Observes k pending s cycles iterations pending' t) {f : Fault} (hf : step t = .fault f)
    (l : Nat) : observe (k + (l + 1)) pending s = ⟨cycles, iterations, .fault f⟩ := by
  rw [h (l + 1), observe_fault l pending' hf, List.append_nil, List.append_nil]

theorem Observes.run_fault_eq (h : Observes k pending s cycles iterations pending' t) {f : Fault} (hf : step t = .fault f)
    (l : Nat) : run (k + (l + 1)) s = .fault f := by
  rw [← observe_outcome _ pending s, h.observe_fault_eq hf]

end Observes

/-! ### The ports between two changes -/

/-- The ports of `s` over `m` clock cycles in which nothing changes, but that the strobe is over after the first. -/
def State.shown (s : State) (m : Nat) : List PortLevels :=
  (List.range m).map fun j => { s.ports with rawStrobe := s.rawStrobe && decide (j = 0) }

theorem State.shown_zero (s : State) : s.shown 0 = [] := rfl

/-- Without the strobe every cycle shows the same ports. -/
theorem State.shown_eq_replicate {s : State} (h : s.rawStrobe = false) (m : Nat) : s.shown m = List.replicate m s.ports := by
  have hports : ({ s.ports with rawStrobe := false } : PortLevels) = s.ports := by rw [← h]; rfl
  simp only [State.shown, h, Bool.false_and, hports, List.map_const', List.length_range]

/-- The ports go on being shown by a state that differs only in what no port shows, and in the strobe once a cycle has gone by. -/
theorem State.shown_add {s u : State} {m : Nat}
    (h : u.ports = { s.ports with rawStrobe := s.rawStrobe && decide (m = 0) }) (c : Nat) :
    s.shown (m + c) = s.shown m ++ u.shown c := by
  have hstrobe : u.rawStrobe = (s.rawStrobe && decide (m = 0)) := congrArg PortLevels.rawStrobe h
  rw [State.shown, List.range_add, List.map_append, List.map_map]
  refine congrArg (s.shown m ++ ·) (List.map_congr_left fun j _ => ?_)
  simp only [Function.comp, h, hstrobe, Nat.add_eq_zero_iff, Bool.decide_and, Bool.and_assoc]

/-- A step outside `COMPUTE`, with `rst` low, shows the ports of its state over the cycles of its phase. -/
theorem stepCycles_shown {s : State} (hrst : s.rstAsserted = false) (h : s.PHASE ≠ .compute) :
    stepCycles s = s.shown (phaseCycles Config.params s.PHASE) := by
  rw [stepCycles_run hrst]
  exact List.map_congr_left fun k _ => portsInCycle_of_ne_compute Config.params k h

/-- A step in a phase other than `EMIT` completes no iteration. -/
theorem completed_of_ne_emit (pending : Option Iteration) {s : State} (t : State) (h : s.PHASE ≠ .emit) :
    completed pending s t = [] := if_neg fun ⟨_, hemit, _⟩ => h hemit

/-- A capture step leaves no iteration under way. -/
theorem underWay_of_capture (pending : Option Iteration) {s : State} (h : s.PHASE = .align ∨ s.PHASE = .arm ∨ s.PHASE = .measure) :
    underWay pending s = none := by
  rw [underWay]
  rcases h with h | h | h <;> simp [h]

/-! ### Capture, one quantum at a time (40_capture.md R101 to R106) -/

/-- The inputs of a step with `rst` low, at the head of the list. -/
theorem State.rstAsserted_of_cons {s : State} {pin : Pins} {rest : List Pins} (h : s.stimulus = pin :: rest)
    (hpin : pin.rst = none) : s.rstAsserted = false :=
  State.rstAsserted_of_none (by simp only [State.pins, h, hpin])

theorem State.pinRead_of_cons {s : State} {pin : Pins} {rest : List Pins} (h : s.stimulus = pin :: rest) :
    s.pinRead = pin.ppmIn := by
  simp only [State.pinRead, State.pins, h]

/-- The state `k` capture quanta on from `s`, in phase `ph` with this count and these inputs to come: nothing else has changed, but that
the strobe is over after the first of the quanta. -/
def State.waiting (s : State) (k : Nat) (ph : Phase) (count : Nat) (rest : List Pins) : State :=
  { s with PHASE := ph, NCNT := count, rawStrobe := s.rawStrobe && decide (k = 0), stimulus := rest
           tick := s.tick + k, clk := s.clk + k * Config.params.capCpl }

theorem State.waiting_zero (s : State) : s.waiting 0 s.PHASE s.NCNT s.stimulus = s := by
  simp [State.waiting]

/-- One capture quantum more. -/
theorem State.waiting_captured (s : State) (k : Nat) (ph : Phase) (count : Nat) (pin : Pins) (rest : List Pins) {ph' : Phase}
    (hph' : ph' ≠ .compute) (count' : Nat) :
    (s.waiting k ph count (pin :: rest)).captured ph' count' s.RAWQ = s.waiting (k + 1) ph' count' rest := by
  simp [State.waiting, State.captured, State.advance, hph', Nat.add_assoc, Nat.succ_mul]

/-- `k` capture quanta from `s` lead to `ph` with this count and these inputs to come, and the observer sees the ports of `s` all along. -/
def Waits (pending : Option Iteration) (s : State) (k : Nat) (ph : Phase) (count : Nat) (rest : List Pins) : Prop :=
  ∃ pending', Observes k pending s (s.shown (k * Config.params.capCpl)) [] pending' (s.waiting k ph count rest)

section Waits

variable {pending : Option Iteration} {s : State} {k count : Nat} {rest : List Pins}

theorem Waits.refl (pending : Option Iteration) (s : State) : Waits pending s 0 s.PHASE s.NCNT s.stimulus := by
  rw [Waits, Nat.zero_mul, State.shown_zero, s.waiting_zero]
  exact ⟨pending, Observes.refl pending s⟩

/-- The ports of a state that waits in a capture phase are those it started with. -/
theorem State.waiting_ports (s : State) (k : Nat) (ph : Phase) (count : Nat) (rest : List Pins) :
    (s.waiting k ph count rest).ports =
      { s.ports with rawStrobe := s.rawStrobe && decide (k * Config.params.capCpl = 0) } := by
  obtain ⟨-, -, -, -, -, -, hcap, -⟩ := Config.params_bounds
  simp [State.waiting, State.ports, hcap.ne']

/-- A capture step after the quanta, to a phase other than `COMPUTE`, is one quantum more. -/
theorem Waits.capture_step {ph ph' : Phase} {pin : Pins} {count' : Nat} (h : Waits pending s k ph count (pin :: rest))
    (hpin : pin.rst = none) (hph : ph = .align ∨ ph = .arm ∨ ph = .measure) (hph' : ph' ≠ .compute)
    (hstep : step (s.waiting k ph count (pin :: rest)) =
      .next ((s.waiting k ph count (pin :: rest)).captured ph' count' s.RAWQ)) :
    Waits pending s (k + 1) ph' count' rest := by
  obtain ⟨pending', hobs⟩ := h
  rw [s.waiting_captured k ph count pin rest hph' count'] at hstep
  have hrst : (s.waiting k ph count (pin :: rest)).rstAsserted = false := State.rstAsserted_of_cons rfl hpin
  have hne : (s.waiting k ph count (pin :: rest)).PHASE ≠ .compute := by rcases hph with rfl | rfl | rfl <;> nofun
  have hne' : (s.waiting k ph count (pin :: rest)).PHASE ≠ .emit := by rcases hph with rfl | rfl | rfl <;> nofun
  have hcycles : phaseCycles Config.params (s.waiting k ph count (pin :: rest)).PHASE = Config.params.capCpl := by
    rcases hph with rfl | rfl | rfl <;> rfl
  have hboth := hobs.trans (Observes.of_step pending' hstep)
  rw [stepCycles_shown hrst hne, completed_of_ne_emit pending' _ hne', hcycles,
    ← State.shown_add (s.waiting_ports k ph count (pin :: rest)), ← Nat.succ_mul] at hboth
  exact ⟨_, hboth⟩

theorem Waits.align_high (h : Waits pending s k .align count (⟨none, true⟩ :: rest)) :
    Waits pending s (k + 1) .align count rest :=
  h.capture_step rfl (.inl rfl) nofun (step_align (State.rstAsserted_of_cons rfl rfl) rfl)

theorem Waits.align_low (h : Waits pending s k .align count (⟨none, false⟩ :: rest)) :
    Waits pending s (k + 1) .arm count rest :=
  h.capture_step rfl (.inl rfl) nofun (step_align (State.rstAsserted_of_cons rfl rfl) rfl)

theorem Waits.arm_low (h : Waits pending s k .arm count (⟨none, false⟩ :: rest)) :
    Waits pending s (k + 1) .arm count rest :=
  h.capture_step rfl (.inr (.inl rfl)) nofun (step_arm_low (State.rstAsserted_of_cons rfl rfl) rfl rfl)

theorem Waits.arm_high (h : Waits pending s k .arm count (⟨none, true⟩ :: rest)) :
    Waits pending s (k + 1) .measure 1 rest :=
  h.capture_step rfl (.inr (.inl rfl)) nofun (step_arm_high (State.rstAsserted_of_cons rfl rfl) rfl rfl)

theorem Waits.measure_high (h : Waits pending s k .measure count (⟨none, true⟩ :: rest)) :
    Waits pending s (k + 1) .measure (count + 1) rest :=
  h.capture_step rfl (.inr (.inr rfl)) nofun (step_measure_high (State.rstAsserted_of_cons rfl rfl) rfl rfl)

/-- `CAP.ALIGN.WAIT` blocks while the line is high (40_capture.md R102). -/
theorem Waits.align_hold (n : Nat) (h : Waits pending s k .align count (levels true n ++ rest)) :
    Waits pending s (k + n) .align count rest := by
  induction n generalizing k with
  | zero => exact h
  | succ n ih => rw [Nat.add_comm n, ← Nat.add_assoc]; exact ih h.align_high

/-- `CAP.ARM.WAIT` blocks while the line is low (40_capture.md R104). -/
theorem Waits.arm_hold (n : Nat) (h : Waits pending s k .arm count (levels false n ++ rest)) :
    Waits pending s (k + n) .arm count rest := by
  induction n generalizing k with
  | zero => exact h
  | succ n ih => rw [Nat.add_comm n, ← Nat.add_assoc]; exact ih h.arm_low

/-- `CAP.MEAS.COUNT` counts the high samples (40_capture.md R106). -/
theorem Waits.measure_hold (n : Nat) (h : Waits pending s k .measure count (levels true n ++ rest)) :
    Waits pending s (k + n) .measure (count + n) rest := by
  induction n generalizing k count with
  | zero => exact h
  | succ n ih => rw [Nat.add_comm n, ← Nat.add_assoc, ← Nat.add_assoc]; exact ih h.measure_high

/-- Low samples in `ALIGN` lead to `ARM` (40_capture.md R103, R104). -/
theorem Waits.low {a : Nat} (ha : 1 ≤ a) (h : Waits pending s k .align count (levels false a ++ rest)) :
    Waits pending s (k + a) .arm count rest := by
  obtain ⟨a, rfl⟩ := Nat.exists_eq_add_of_le' ha
  rw [Nat.add_comm a, ← Nat.add_assoc]
  exact Waits.arm_hold a h.align_low

/-- High samples in `ARM` are counted, the one that reveals the edge included (40_capture.md R105, R106). -/
theorem Waits.high {n : Nat} (hn : 1 ≤ n) (h : Waits pending s k .arm count (levels true n ++ rest)) :
    Waits pending s (k + n) .measure n rest := by
  obtain ⟨n, rfl⟩ := Nat.exists_eq_add_of_le' hn
  rw [Nat.add_comm n, ← Nat.add_assoc]
  exact Waits.measure_hold n h.arm_high

theorem Waits.run_eq {ph : Phase} (h : Waits pending s k ph count rest) : run k s = .next (s.waiting k ph count rest) := by
  obtain ⟨_, hobs⟩ := h
  exact hobs.run_eq

end Waits

/-- Settles O40: from a state with the strobe low, waiting changes nothing but the environment's fields and the clock. -/
theorem blockingHoldsTheState : Obligations.BlockingHoldsTheState := by
  rintro s n rest u hstrobe rfl
  have hwaits := Waits.refl none s
  refine ⟨fun hphase hstim => ?align, fun hphase hstim => ?arm, fun hphase hstim => ?measure⟩ <;>
    rw [hphase, hstim] at hwaits
  case align =>
    have hrun := (Waits.align_hold n hwaits).run_eq
    simpa [State.waiting, hstrobe, ← hphase] using hrun
  case arm =>
    have hrun := (Waits.arm_hold n hwaits).run_eq
    simpa [State.waiting, hstrobe, ← hphase] using hrun
  case measure =>
    have hrun := (Waits.measure_hold n hwaits).run_eq
    simpa [State.waiting, hstrobe, ← hphase] using hrun

end Sys2Proof.Machine

/-! PROOFS. A whole iteration at the signal level: the end of the capture, `LOOP.COMPUTE` and the emission, each as an observed part, and
with them the statements that the signal level follows `Iterate` (00_scope.md R18) and what the ports show of it (45_loop.md R228). -/

namespace Sys2Proof.Machine

/-! ### The end of a capture (40_capture.md R107) -/

/-- The state at the start of `COMPUTE`, `k` capture quanta on from `s`, with the count and the raw width presented. -/
def State.computing (s : State) (k count raw : Nat) (rest : List Pins) : State :=
  { s with PHASE := .compute, NCNT := count, RAWQ := raw, rawStrobe := true, stimulus := rest, tick := s.tick + k
           clk := s.clk + k * Config.params.capCpl }

section Capture

variable {pending : Option Iteration} {s : State} {k n : Nat} {rest : List Pins}

/-- The low sample that ends a pulse in range presents its width. -/
theorem Waits.measure_low (h : Waits pending s k .measure n (⟨none, false⟩ :: rest)) (hrange : conv Config.params n ≤ 16383) :
    Observes (k + 1) pending s (s.shown ((k + 1) * Config.params.capCpl)) [] none
      (s.computing (k + 1) n (conv Config.params n) rest) := by
  obtain ⟨pending', hobs⟩ := h
  have hrst : (s.waiting k .measure n (⟨none, false⟩ :: rest)).rstAsserted = false := State.rstAsserted_of_cons rfl rfl
  have hcaptured : (s.waiting k .measure n (⟨none, false⟩ :: rest)).captured .compute n (conv Config.params n) =
      s.computing (k + 1) n (conv Config.params n) rest := by
    simp [State.waiting, State.captured, State.computing, State.advance, Nat.add_assoc, Nat.succ_mul]
  have hstep : step (s.waiting k .measure n (⟨none, false⟩ :: rest)) =
      .next (s.computing (k + 1) n (conv Config.params n) rest) := by
    rw [← hcaptured]
    exact (step_measure_low hrst rfl rfl).trans (if_neg (not_lt.2 hrange))
  have hne : (s.waiting k .measure n (⟨none, false⟩ :: rest)).PHASE ≠ .emit := nofun
  have hboth := hobs.trans (Observes.of_step pending' hstep)
  rw [stepCycles_shown hrst nofun, completed_of_ne_emit pending' _ hne, underWay_of_capture pending' (.inr (.inr rfl)),
    ← State.shown_add (s.waiting_ports k .measure n _)] at hboth
  rw [Nat.succ_mul]
  exact hboth

/-- The low sample that ends a pulse too long raises `CaptureRange` with the count. -/
theorem step_measure_fault (hrange : 16383 < conv Config.params n) :
    step (s.waiting k .measure n (⟨none, false⟩ :: rest)) = .fault (.captureRange n) :=
  (step_measure_low (State.rstAsserted_of_cons rfl rfl) rfl rfl).trans (if_pos hrange)

end Capture

/-- Settles O41: the high samples are counted, and the low one presents the width or raises the fault. -/
theorem captureMeasuresThePulse : Obligations.CaptureMeasuresThePulse := by
  intro s n rest hphase hn hstim
  have hstart := Waits.refl none s
  rw [hphase, hstim, List.append_assoc] at hstart
  have hwaits := Waits.high hn hstart
  rw [Nat.zero_add] at hwaits
  split
  next hrange => rw [(hwaits.measure_low hrange).run_eq]; rfl
  next hrange =>
    obtain ⟨_, hobs⟩ := hwaits
    exact hobs.run_fault_eq (step_measure_fault (not_le.1 hrange)) 0

/-! ### Emission (41_emission.md R123, R124) -/

/-- The state `k` emission quanta on from `s`, with these inputs to come. -/
def State.emitting (s : State) (k : Nat) (rest : List Pins) : State :=
  { s with ECNT := s.ECNT - k, rawStrobe := s.rawStrobe && decide (k = 0), stimulus := rest, tick := s.tick + k
           clk := s.clk + k * Config.params.emitCpl }

/-- The state at the end of an emission of `k` quanta from `s`, with these inputs to come. -/
def State.emitted (s : State) (k : Nat) (rest : List Pins) : State :=
  { s with ECNT := 0, ppmOut := false, D := min (s.D + 1) 255, PHASE := .align, rawStrobe := false, stimulus := rest
           tick := s.tick + k, clk := s.clk + k * Config.params.emitCpl }

theorem State.emitting_ports (s : State) (k : Nat) (rest : List Pins) :
    (s.emitting k rest).ports = { s.ports with rawStrobe := s.rawStrobe && decide (k * Config.params.emitCpl = 0) } := by
  obtain ⟨-, -, -, -, -, -, -, hemit, -⟩ := Config.params_bounds
  simp [State.emitting, State.ports, hemit.ne']

theorem underWay_of_emit (pending : Option Iteration) {s : State} (hrst : s.rstAsserted = false) (h : s.PHASE = .emit) :
    underWay pending s = pending := by
  rw [underWay, hrst, h]
  rfl

/-- One emission quantum more, whichever operation it runs, shows the ports of the emission on and keeps the iteration under way. -/
theorem Observes.emission_step {pending : Option Iteration} {s t : State} {k : Nat} {pin : Pins} {rest : List Pins}
    (hphase : s.PHASE = .emit) (hpin : pin.rst = none)
    (h : Observes k pending s (s.shown (k * Config.params.emitCpl)) [] pending (s.emitting k (pin :: rest)))
    (hstep : step (s.emitting k (pin :: rest)) = .next t) :
    Observes (k + 1) pending s (s.shown ((k + 1) * Config.params.emitCpl)) (completed pending (s.emitting k (pin :: rest)) t)
      pending t := by
  have hlow : (s.emitting k (pin :: rest)).rstAsserted = false := State.rstAsserted_of_cons rfl hpin
  have hemit : (s.emitting k (pin :: rest)).PHASE = .emit := hphase
  have hboth := h.trans (Observes.of_step pending hstep)
  rw [stepCycles_shown hlow (by simp [hemit]), underWay_of_emit pending hlow hemit, hemit,
    ← State.shown_add (s.emitting_ports k _)] at hboth
  rw [Nat.succ_mul]
  exact hboth

/-- `EMIT.HOLD` counts the quanta of an emission down, whatever the input does, and keeps the iteration under way. -/
theorem observes_emitting (pending : Option Iteration) {s : State} (hphase : s.PHASE = .emit) (held : List Pins)
    {rest : List Pins} (hcount : (held.length : Int) < s.ECNT) (hrst : ∀ p ∈ held, p.rst = none)
    (hstim : s.stimulus = held ++ rest) :
    Observes held.length pending s (s.shown (held.length * Config.params.emitCpl)) [] pending
      (s.emitting held.length rest) := by
  induction held using List.reverseRecOn generalizing rest with
  | nil =>
    have hself : s.emitting 0 rest = s := by
      rw [List.nil_append] at hstim
      simp [State.emitting, ← hstim]
    rw [List.length_nil, Nat.zero_mul, hself]
    exact Observes.refl pending s
  | append_singleton held pin ih =>
    rw [List.length_append, List.length_singleton] at hcount ⊢
    have hobs := ih (rest := pin :: rest) (by omega) (fun p hp => hrst p (List.mem_append_left _ hp)) (by simp [hstim])
    have hlow : (s.emitting held.length (pin :: rest)).rstAsserted = false :=
      State.rstAsserted_of_cons rfl (hrst pin (by simp))
    have hmore : (s.emitting held.length (pin :: rest)).ECNT ≠ 1 := by
      change s.ECNT - _ ≠ 1
      omega
    have hstep := step_emit_hold hlow hphase hmore
    have hnext : ({ s.emitting held.length (pin :: rest) with
        ECNT := (s.emitting held.length (pin :: rest)).ECNT - 1, rawStrobe := false } : State).advance Config.params.emitCpl =
          s.emitting (held.length + 1) rest := by
      simp [State.emitting, State.advance, Nat.add_assoc, Nat.succ_mul]
      omega
    rw [hnext] at hstep
    have hboth := hobs.emission_step hphase (hrst pin (by simp)) hstep
    have hcompleted : completed pending (s.emitting held.length (pin :: rest)) (s.emitting (held.length + 1) rest) = [] :=
      if_neg fun ⟨_, _, halign⟩ => by cases hphase.symm.trans halign
    rwa [hcompleted] at hboth

/-- An emission of exactly its count of quanta ends in `ALIGN` and completes the iteration under way. -/
theorem observes_emitted {s : State} (line : Iteration) (hphase : s.PHASE = .emit) {held rest : List Pins}
    (hpos : 1 ≤ held.length) (hcount : s.ECNT = held.length) (hrst : ∀ p ∈ held, p.rst = none)
    (hstim : s.stimulus = held ++ rest) :
    Observes held.length (some line) s (s.shown (held.length * Config.params.emitCpl))
      [{ line with regs := (s.emitted held.length rest).regs }] (some line) (s.emitted held.length rest) := by
  obtain ⟨held, pin, rfl⟩ := (List.eq_nil_or_concat' held).resolve_left (by rintro rfl; cases hpos)
  rw [List.length_append, List.length_singleton] at hcount ⊢
  have hobs := observes_emitting (some line) hphase held (rest := pin :: rest) (by omega)
    (fun p hp => hrst p (List.mem_append_left _ hp)) (by simp [hstim])
  have hlow : (s.emitting held.length (pin :: rest)).rstAsserted = false :=
    State.rstAsserted_of_cons rfl (hrst pin (by simp))
  have hlast : (s.emitting held.length (pin :: rest)).ECNT = 1 := by
    change s.ECNT - _ = 1
    omega
  have hstep := step_emit_end hlow hphase hlast
  have hnext : ({ s.emitting held.length (pin :: rest) with
      ECNT := 0, ppmOut := false, D := min ((s.emitting held.length (pin :: rest)).D + 1) 255, PHASE := .align
      rawStrobe := false } : State).advance Config.params.emitCpl = s.emitted (held.length + 1) rest := by
    simp [State.emitting, State.emitted, State.advance, Nat.add_assoc, Nat.succ_mul]
  rw [hnext] at hstep
  have hboth := hobs.emission_step hphase (hrst pin (by simp)) hstep
  have hcompleted : completed (some line) (s.emitting held.length (pin :: rest)) (s.emitted (held.length + 1) rest) =
      [{ line with regs := (s.emitted (held.length + 1) rest).regs }] := if_pos ⟨hlow, hphase, rfl⟩
  rwa [hcompleted] at hboth

/-- Settles O42: before the last quantum `EMIT.HOLD` only counts down, and the last ends the pulse and the iteration. -/
theorem emissionLastsItsCount : Obligations.EmissionLastsItsCount := by
  intro s held rest hphase hpos hcount hrst hstim
  refine ⟨fun k hk => ?held, ?ended⟩
  case held =>
    have hlen : (held.take k).length = k := List.length_take_of_le hk.le
    have hobs := observes_emitting none hphase (held.take k) (rest := held.drop k ++ rest) (by omega)
      (fun p hp => hrst p (List.mem_of_mem_take hp)) (by rw [hstim, ← List.append_assoc, List.take_append_drop])
    rw [hlen] at hobs
    exact ⟨_, hobs.run_eq, hphase, rfl, rfl⟩
  case ended => exact (observes_emitted (loopLine Config.params s.regs s.RAWQ) hphase hpos hcount hrst hstim).run_eq

end Sys2Proof.Machine

/-! PROOFS. The signal level and `Iterate` (00_scope.md R18): one pulse is one iteration, with its faults and its ports in every clock
cycle, and a list of pulses has the trace of its raw widths (45_loop.md R228). -/

namespace Sys2Proof.Machine

/-! ### The parts of an iteration -/

/-- The state at the start of the emission, one `LOOP.COMPUTE` on from `s`. -/
def State.launched (s : State) : State :=
  ((s.lowerStrobe Config.params.tProc).launch Config.params (loopLine Config.params s.regs s.RAWQ)).advance Config.params.tProc

/-- A `LOOP.COMPUTE` that completes puts its line under way. -/
theorem observes_compute (pending : Option Iteration) {s : State} (hphase : s.PHASE = .compute) (hrst : s.rstAsserted = false)
    (hout : 0 ≤ (loopLine Config.params s.regs s.RAWQ).out) :
    Observes 1 pending s (stepCycles s) [] (some (loopLine Config.params s.regs s.RAWQ)) s.launched := by
  have hstep : step s = .next s.launched := (step_compute hrst hphase).trans (if_neg hout.not_gt)
  have hunderWay : underWay pending s = some (loopLine Config.params s.regs s.RAWQ) := by
    rw [underWay, hrst, hphase, ← computedLine_eq]
    rfl
  have hobs := Observes.of_step pending hstep
  rwa [hunderWay, completed_of_ne_emit pending _ (by simp [hphase])] at hobs

/-- A pulse seen from `ALIGN`, up to its last high sample. -/
theorem Waits.pulse (pending : Option Iteration) {s : State} {a n : Nat} {rest : List Pins} (hphase : s.PHASE = .align)
    (ha : 1 ≤ a) (hn : 1 ≤ n) (hstim : s.stimulus = levels false a ++ levels true n ++ levels false 1 ++ rest) :
    Waits pending s (a + n) .measure n (⟨none, false⟩ :: rest) := by
  have hstart := Waits.refl pending s
  rw [hphase, hstim, List.append_assoc, List.append_assoc] at hstart
  have hwaits := (hstart.low ha).high hn
  rwa [Nat.zero_add] at hwaits

/-- The levels of an output pulse come after the one of `LOOP.COMPUTE`. -/
theorem exists_cons_of_length {held : List Pins} {N : Int} (hN : 1 ≤ N) (hlen : (held.length : Int) = 1 + N) :
    ∃ pin quanta, held = pin :: quanta ∧ (quanta.length : Int) = N ∧ 1 ≤ quanta.length := by
  cases held with
  | nil => simp at hlen; omega
  | cons pin quanta =>
    rw [List.length_cons] at hlen
    exact ⟨pin, quanta, rfl, by omega, by omega⟩

/-- A pulse whose iteration completes, from `ALIGN` to `ALIGN`: the observer sees the ports of the capture, of `LOOP.COMPUTE` and of the
emission, and has the line of `Iterate`. -/
theorem observes_iteration (pending : Option Iteration) {s : State} {a n : Nat} {pin : Pins} {quanta rest : List Pins}
    {it : Iteration} (hphase : s.PHASE = .align) (ha : 1 ≤ a) (hn : 1 ≤ n)
    (hstim : s.stimulus = levels false a ++ levels true n ++ levels false 1 ++ (pin :: quanta ++ rest))
    (hrst : ∀ p ∈ pin :: quanta, p.rst = none) (hit : iterate Config.params s.regs (conv Config.params n) = .ok it)
    (hcount : (quanta.length : Int) = emitCount Config.params it.out) {u : State}
    (hu : u = s.computing (a + n + 1) n (conv Config.params n) (pin :: quanta ++ rest)) :
    Observes (a + n + 1 + (quanta.length + 1)) pending s
      (s.shown ((a + n + 1) * Config.params.capCpl) ++
        (stepCycles u ++ u.launched.shown (quanta.length * Config.params.emitCpl)))
      [it] (some (loopLine Config.params s.regs (conv Config.params n))) (u.launched.emitted quanta.length rest) := by
  obtain ⟨hraw, hout, rfl⟩ := iterate_eq_ok_iff.1 hit
  obtain ⟨hpin, hquanta⟩ := List.forall_mem_cons.1 hrst
  change (quanta.length : Int) = emitCount Config.params (loopLine Config.params s.regs (conv Config.params n)).out at hcount
  have hquantum := emitCount_pos Config.params hout
  have hpos : 1 ≤ quanta.length := by omega
  have hcapture := (Waits.pulse pending hphase ha hn hstim).measure_low hraw
  rw [← hu] at hcapture
  have hcompute : Observes 1 none u (stepCycles u) [] (some (loopLine Config.params s.regs (conv Config.params n)))
      u.launched := by
    subst hu
    exact observes_compute none rfl (State.rstAsserted_of_cons rfl hpin) hout
  have hemission := observes_emitted (s := u.launched) (rest := rest) (loopLine Config.params s.regs (conv Config.params n))
    rfl hpos (by subst hu; exact hcount.symm) hquanta (by subst hu; rfl)
  have hline : { loopLine Config.params s.regs (conv Config.params n) with
      regs := (u.launched.emitted quanta.length rest).regs } =
        (loopLine Config.params s.regs (conv Config.params n)).count Config.params := by
    subst hu
    rfl
  rw [hline] at hemission
  rw [Nat.add_comm quanta.length]
  exact hcapture.trans (hcompute.trans hemission)

/-- A pulse whose iteration ends in `EmitRange`: its capture is seen, and `LOOP.COMPUTE` raises the fault. -/
theorem observe_emitRange (pending : Option Iteration) {s : State} {a n : Nat} {pin : Pins} {rest : List Pins}
    (hphase : s.PHASE = .align) (ha : 1 ≤ a) (hn : 1 ≤ n)
    (hstim : s.stimulus = levels false a ++ levels true n ++ levels false 1 ++ (pin :: rest)) (hpin : pin.rst = none)
    (hraw : conv Config.params n ≤ 16383) {out : Int}
    (hfault : (loopLine Config.params s.regs (conv Config.params n)).out = out) (hout : out < 0) (l : Nat) :
    observe (a + n + 1 + (l + 1)) pending s =
      ⟨s.shown ((a + n + 1) * Config.params.capCpl), [], .fault (.emitRange out)⟩ := by
  subst hfault
  have hcapture := (Waits.pulse pending hphase ha hn hstim).measure_low hraw
  exact hcapture.observe_fault_eq ((step_compute (State.rstAsserted_of_cons rfl hpin) rfl).trans (if_pos hout)) l

/-- A pulse too long: it is seen up to its last high sample, and the low one raises the fault. -/
theorem observe_captureRange (pending : Option Iteration) {s : State} {a n : Nat} {rest : List Pins}
    (hphase : s.PHASE = .align) (ha : 1 ≤ a) (hn : 1 ≤ n)
    (hstim : s.stimulus = levels false a ++ levels true n ++ levels false 1 ++ rest)
    (hraw : 16383 < conv Config.params n) (l : Nat) :
    observe (a + n + (l + 1)) pending s =
      ⟨s.shown ((a + n) * Config.params.capCpl), [], .fault (.captureRange n)⟩ := by
  obtain ⟨_, hobs⟩ := Waits.pulse pending hphase ha hn hstim
  exact hobs.observe_fault_eq (step_measure_fault hraw) l

/-! ### One pulse (45_loop.md R227) -/

/-- Settles O43: the three parts of the iteration in a row, or the fault of the capture or of `LOOP.COMPUTE`. -/
theorem onePulseIsOneIteration : Obligations.OnePulseIsOneIteration := by
  intro s a n held rest hphase ha hn hpos hrst hstim
  rw [List.append_assoc _ held] at hstim
  cases hit : iterate Config.params s.regs (conv Config.params n) with
  | ok it =>
    intro hlen
    obtain ⟨hraw, hout, hline⟩ := iterate_eq_ok_iff.1 hit
    have hpulse : 1 ≤ emitCount Config.params it.out := hline ▸ emitCount_pos Config.params hout
    obtain ⟨pin, quanta, rfl, hcount, -⟩ := exists_cons_of_length hpulse hlen
    have hobs := observes_iteration none hphase ha hn hstim hrst hit hcount rfl
    subst hline
    refine ⟨_, hobs.run_eq, rfl, rfl, rfl, rfl, rfl, rfl, rfl, rfl, rfl, rfl, ?_⟩
    rw [← hcount]
    push_cast [State.emitted, State.launched, State.computing, State.launch, State.withRegs, State.advance_clk,
      State.lowerStrobe_clk]
    rfl
  | error f =>
    rcases iterate_eq_error_iff.1 hit with ⟨hrange, rfl⟩ | ⟨hraw, hout, rfl⟩
    · rw [← observe_outcome (a + n + 1) none s, observe_captureRange none hphase ha hn hstim hrange 0]
    · obtain ⟨pin, quanta, rfl⟩ := List.exists_cons_of_length_pos hpos
      rw [← observe_outcome (a + n + 2) none s]
      obtain ⟨hpin, -⟩ := List.forall_mem_cons.1 hrst
      exact congrArg Observation.outcome (observe_emitRange none hphase ha hn hstim hpin hraw rfl hout 0)

/-! ### A list of pulses (45_loop.md R228, 60_exceptions.md R249) -/

theorem rst_of_mem_levels {level : Level} {count : Nat} {p : Pins} (h : p ∈ levels level count) : p.rst = none := by
  rw [List.eq_of_mem_replicate h]

/-- How a run of pulses at the signal level ends, against how the run of their raw widths ends: in the same registers, or in the same
fault, `CaptureRange` with the count of the first pulse that is not in the trace. -/
def EndsAs (outcome : Result) (rest : List Pins) (widths : List (Nat × Nat)) (run : List Iteration × Except Fault Regs) : Prop :=
  match run.2 with
  | .ok r => ∃ t, outcome = .next t ∧ t.regs = r ∧ t.PHASE = .align ∧ t.stimulus = rest
  | .error f =>
    ∃ g, outcome = .fault g ∧ g.code = f.code ∧
      ((∃ out, f = .emitRange out ∧ g = f) ∨
        ∃ q, widths[run.1.length]? = some q ∧ f = .captureRange (conv Config.params q.2) ∧ g = .captureRange q.2)

/-- One more pulse in front, with its iteration in front of the trace, leaves how the run ends as it is. -/
theorem EndsAs.cons {outcome : Result} {rest : List Pins} {widths : List (Nat × Nat)} {tr : List Iteration}
    {final : Except Fault Regs} (h : EndsAs outcome rest widths (tr, final)) (q : Nat × Nat) (it : Iteration) :
    EndsAs outcome rest (q :: widths) (it :: tr, final) := by
  cases final with
  | ok r => exact h
  | error f => exact h

/-- The raw widths of a list of pulses as a stimulus program. -/
def pulseProgram (widths : List (Nat × Nat)) : List Stimulus := widths.map fun q => .pulse (conv Config.params q.2)

/-- One pulse of a list, with the low line for as long as its iteration takes: its line, and the state to go on from. -/
theorem observes_pulse (pending : Option Iteration) {s : State} {low high : Nat} {rest : List Pins} {it : Iteration}
    (hphase : s.PHASE = .align) (hlow : 1 ≤ low) (hhigh : 1 ≤ high)
    (hit : iterate Config.params s.regs (conv Config.params high) = .ok it)
    (hstim : s.stimulus = levels false low ++ levels true high ++ levels false 1 ++
      levels false (1 + (emitCount Config.params it.out).toNat) ++ rest) :
    ∃ cycles pending' t, Observes (low + high + 1 + (1 + (emitCount Config.params it.out).toNat)) pending s cycles [it] pending' t ∧
      t.regs = it.regs ∧ t.PHASE = .align ∧ t.stimulus = rest := by
  obtain ⟨-, hout, hline⟩ := iterate_eq_ok_iff.1 hit
  have hpulse : 1 ≤ emitCount Config.params it.out := hline ▸ emitCount_pos Config.params hout
  have hlen : (levels false (emitCount Config.params it.out).toNat).length = (emitCount Config.params it.out).toNat :=
    List.length_replicate
  rw [Nat.add_comm 1, levels_succ, List.append_assoc] at hstim
  have hobs := observes_iteration pending (quanta := levels false (emitCount Config.params it.out).toNat) hphase hlow hhigh
    hstim (List.forall_mem_cons.2 ⟨rfl, fun p => rst_of_mem_levels⟩) hit (by omega) rfl
  rw [hlen] at hobs
  rw [Nat.add_comm 1]
  subst hline
  exact ⟨_, _, _, hobs, rfl, rfl, rfl⟩

/-- One pulse of a list whose iteration faults: nothing is completed, and the run ends in the fault of the signal level. -/
theorem observe_pulse_fault (pending : Option Iteration) {s : State} {low high : Nat} {rest : List Pins} {f : Fault}
    (hphase : s.PHASE = .align) (hlow : 1 ≤ low) (hhigh : 1 ≤ high)
    (hit : iterate Config.params s.regs (conv Config.params high) = .error f)
    (hstim : s.stimulus = levels false low ++ levels true high ++ levels false 1 ++ levels false 1 ++ rest) :
    ∃ cycles g, observe (low + high + 1 + 1) pending s = ⟨cycles, [], .fault g⟩ ∧ g.code = f.code ∧
      ((∃ out, f = .emitRange out ∧ g = f) ∨ (f = .captureRange (conv Config.params high) ∧ g = .captureRange high)) := by
  rw [List.append_assoc _ (levels false 1) rest] at hstim
  rcases iterate_eq_error_iff.1 hit with ⟨hrange, rfl⟩ | ⟨hraw, hout, rfl⟩
  · exact ⟨_, _, observe_captureRange pending hphase hlow hhigh hstim hrange 1, rfl, .inr ⟨rfl, rfl⟩⟩
  · exact ⟨_, _, observe_emitRange pending hphase hlow hhigh hstim rfl hraw rfl hout 0, rfl, .inl ⟨_, rfl, rfl⟩⟩

/-- The trace of a list of pulses, pulse by pulse. -/
theorem observe_pulseLevels (widths : List (Nat × Nat)) (rest : List Pins) (pending : Option Iteration) {s : State}
    (hphase : s.PHASE = .align) (hwidths : ∀ q ∈ widths, 1 ≤ q.1 ∧ 1 ≤ q.2)
    (hstim : s.stimulus = pulseLevels Config.params s.regs widths ++ rest) :
    (observe (pulseLevels Config.params s.regs widths).length pending s).iterations =
        (runStimulus Config.params s.regs (pulseProgram widths)).1 ∧
      EndsAs (observe (pulseLevels Config.params s.regs widths).length pending s).outcome rest widths
        (runStimulus Config.params s.regs (pulseProgram widths)) := by
  induction widths generalizing s pending with
  | nil => exact ⟨rfl, s, rfl, rfl, hphase, hstim⟩
  | cons q widths ih =>
    obtain ⟨low, high⟩ := q
    obtain ⟨⟨hlow, hhigh⟩, hmore⟩ := List.forall_mem_cons.1 hwidths
    cases hit : iterate Config.params s.regs (conv Config.params high) with
    | ok it =>
      have hlevels : pulseLevels Config.params s.regs ((low, high) :: widths) =
          levels false low ++ levels true high ++ levels false 1 ++
            (levels false (1 + (emitCount Config.params it.out).toNat) ++ pulseLevels Config.params it.regs widths) := by
        simp only [pulseLevels, hit]
      have hprogram : runStimulus Config.params s.regs (pulseProgram ((low, high) :: widths)) =
          (it :: (runStimulus Config.params it.regs (pulseProgram widths)).1,
            (runStimulus Config.params it.regs (pulseProgram widths)).2) := by
        simp only [pulseProgram, List.map_cons, runStimulus, hit]
      have hlength : (pulseLevels Config.params s.regs ((low, high) :: widths)).length =
          low + high + 1 + (1 + (emitCount Config.params it.out).toNat) +
            (pulseLevels Config.params it.regs widths).length := by
        simp only [hlevels, levels, List.length_append, List.length_replicate, Nat.add_assoc]
      obtain ⟨cycles, pending', t, hobs, hregs, hphase', hstim'⟩ :=
        observes_pulse (rest := pulseLevels Config.params it.regs widths ++ rest) pending hphase hlow hhigh hit
          (by rw [hstim, hlevels]; simp only [List.append_assoc])
      obtain ⟨htrace, hends⟩ := ih pending' hphase' hmore (by rw [hstim', hregs])
      rw [hregs] at htrace hends
      rw [hlength, hobs, hprogram]
      exact ⟨congrArg (it :: ·) htrace, hends.cons (low, high) it⟩
    | error f =>
      have hlevels : pulseLevels Config.params s.regs ((low, high) :: widths) =
          levels false low ++ levels true high ++ levels false 1 ++ levels false 1 := by
        simp only [pulseLevels, hit]
      have hprogram : runStimulus Config.params s.regs (pulseProgram ((low, high) :: widths)) = ([], .error f) := by
        simp only [pulseProgram, List.map_cons, runStimulus, hit]
      have hlength : (pulseLevels Config.params s.regs ((low, high) :: widths)).length = low + high + 1 + 1 := by
        simp only [hlevels, levels, List.length_append, List.length_replicate]
      obtain ⟨cycles, g, hobs, hcode, hfault⟩ :=
        observe_pulse_fault (rest := rest) pending hphase hlow hhigh hit (by rw [hstim, hlevels])
      rw [hlength, hobs, hprogram]
      exact ⟨rfl, g, rfl, hcode, hfault.imp_right fun hcapture => ⟨(low, high), rfl, hcapture⟩⟩

/-- Settles O45: pulse by pulse, the observed run and the run of the raw widths go on together or end together. -/
theorem signalTraceIsTheIterationTrace : Obligations.SignalTraceIsTheIterationTrace :=
  fun _ widths rest pending hphase hwidths hstim => observe_pulseLevels widths rest pending hphase hwidths hstim

/-! ### The ports of an iteration in every clock cycle (45_loop.md R228, 20_memory.md R60) -/

/-- The ports that `LOOP.COMPUTE` shows: the strobe in its first cycle, and the lights of the iteration from one cycle on. -/
theorem portsInCycle_computing {s : State} (k count raw : Nat) (rest : List Pins) (j : Nat) :
    portsInCycle Config.params (s.computing k count raw rest) j =
      { ppmOut := s.ppmOut
        ind := (if (s.computing k count raw rest).indicatorCycle Config.params ≤ j
          then (loopLine Config.params s.regs raw).IND else s.IND).code
        rearEn := if (s.computing k count raw rest).indicatorCycle Config.params ≤ j
          then (loopLine Config.params s.regs raw).REAR else s.REAR
        rawUs := BitVec.ofNat 16 raw
        rawStrobe := decide (j = 0) } := by
  have hlights : (s.computing k count raw rest).lights Config.params j =
      if (s.computing k count raw rest).indicatorCycle Config.params ≤ j
      then (s.computing k count raw rest).present (loopLine Config.params s.regs raw) else s.computing k count raw rest := by
    simp only [State.lights, computeOutputs_eq]
    exact if_congr (and_iff_right rfl) rfl rfl
  rw [portsInCycle, hlights]
  split <;> rfl

/-- The ports in cycle `k` of an iteration whose capture lasts `c` cycles and presents `raw`, and whose lights change in cycle `shift`
of `LOOP.COMPUTE`. -/
def iterationPorts (s : State) (it : Iteration) (raw c shift k : Nat) : PortLevels :=
  { ppmOut := decide (c + Config.params.tProc ≤ k)
    ind := (if c + shift ≤ k then it.IND else s.IND).code
    rearEn := if c + shift ≤ k then it.REAR else s.REAR
    rawUs := BitVec.ofNat 16 (if c ≤ k then raw else s.RAWQ)
    rawStrobe := decide (k = c) }

section IterationPorts

variable {s : State} {raw c shift k j : Nat}

theorem iterationPorts_capture (hppm : s.ppmOut = false) (hstrobe : s.rawStrobe = false) (it : Iteration) (hk : k < c) :
    iterationPorts s it raw c shift k = { s.ports with rawStrobe := s.rawStrobe && decide (k = 0) } := by
  have hline : ¬ c + Config.params.tProc ≤ k := by omega
  have hlights : ¬ c + shift ≤ k := by omega
  simp [iterationPorts, State.ports, hppm, hstrobe, hline, hlights, hk.not_ge, hk.ne]

theorem iterationPorts_compute (hppm : s.ppmOut = false) {count : Nat} {rest : List Pins} (i : Nat)
    (hshift : (s.computing i count raw rest).indicatorCycle Config.params = shift) (hj : j < Config.params.tProc) :
    iterationPorts s (loopLine Config.params s.regs raw) raw c shift (c + j) =
      portsInCycle Config.params (s.computing i count raw rest) j := by
  have hline : ¬ Config.params.tProc ≤ j := hj.not_ge
  rw [portsInCycle_computing, hshift]
  simp [iterationPorts, hppm, hline]

theorem iterationPorts_emission {u : State} (hu : u.rawStrobe = true) (hraw : u.RAWQ = raw)
    (hshift : shift ≤ Config.params.tProc) :
    iterationPorts s (loopLine Config.params u.regs u.RAWQ) raw c shift (c + Config.params.tProc + j) =
      { u.launched.ports with rawStrobe := u.launched.rawStrobe && decide (j = 0) } := by
  have hlights : c + shift ≤ c + Config.params.tProc + j := by omega
  have hlate : c ≤ c + Config.params.tProc + j := by omega
  have hstrobe : u.launched.rawStrobe = decide (Config.params.tProc = 0) := by
    change (u.rawStrobe && _) = _
    rw [hu, Bool.true_and]
  have hfirst : decide (c + Config.params.tProc + j = c) = (decide (Config.params.tProc = 0) && decide (j = 0)) := by
    rw [← Bool.decide_and]
    exact decide_eq_decide.2 (by omega)
  rw [hstrobe, ← hfirst]
  simp only [iterationPorts, hlights, hlate, if_true, ← hraw]
  rw [decide_eq_true (Nat.le_add_right _ j)]
  rfl

end IterationPorts

/-- Over its cycles an iteration shows the capture, `LOOP.COMPUTE` and the emission one after the other. -/
theorem map_iterationPorts {s u : State} {c raw i count m shift : Nat} {rest : List Pins} (hppm : s.ppmOut = false)
    (hstrobe : s.rawStrobe = false) (hu : u = s.computing i count raw rest) (hrst : u.rstAsserted = false)
    (hshift : u.indicatorCycle Config.params = shift) :
    (List.range (c + Config.params.tProc + m)).map (iterationPorts s (loopLine Config.params s.regs raw) raw c shift) =
      s.shown c ++ (stepCycles u ++ u.launched.shown m) := by
  have hle : shift ≤ Config.params.tProc := by
    rw [← hshift, State.indicatorCycle]
    omega
  subst hu
  rw [List.range_add, List.range_add, List.map_append, List.map_append, List.map_map, List.map_map, List.append_assoc,
    stepCycles_run hrst]
  refine congrArg₂ (· ++ ·) (List.map_congr_left fun k hk => ?_)
    (congrArg₂ (· ++ ·) (List.map_congr_left fun j hj => ?_) (List.map_congr_left fun j _ => ?_))
  · exact iterationPorts_capture hppm hstrobe _ (List.mem_range.1 hk)
  · exact iterationPorts_compute hppm i hshift (List.mem_range.1 hj)
  · exact iterationPorts_emission (u := s.computing i count raw rest) rfl rfl hle

/-- Settles O46: the ports over the capture, over `LOOP.COMPUTE` and over the emission, one after the other. -/
theorem portsAtEveryCycleOfAnIteration : Obligations.PortsAtEveryCycleOfAnIteration := by
  intro s a n c held rest pending hphase hppm hstrobe ha hn hc hpos hrst hstim
  subst hc
  rw [List.append_assoc _ held] at hstim
  cases hit : iterate Config.params s.regs (conv Config.params n) with
  | ok it =>
    intro hlen
    obtain ⟨hraw, hout, hline⟩ := iterate_eq_ok_iff.1 hit
    have hpulse : 1 ≤ emitCount Config.params it.out := hline ▸ emitCount_pos Config.params hout
    obtain ⟨pin, quanta, rfl, hcount, -⟩ := exists_cons_of_length hpulse hlen
    have hobs := observes_iteration pending hphase ha hn hstim hrst hit hcount rfl
    obtain ⟨hpin, -⟩ := List.forall_mem_cons.1 hrst
    have hports := map_iterationPorts (c := (a + n + 1) * Config.params.capCpl) (m := quanta.length * Config.params.emitCpl)
      hppm hstrobe rfl (State.rstAsserted_of_cons (s := s.computing (a + n + 1) n (conv Config.params n) (pin :: quanta ++ rest))
        rfl hpin) rfl
    refine ⟨State.indicatorCycle (s.computing (a + n + 1) n (conv Config.params n) (pin :: quanta ++ rest)) Config.params, ?_, ?_⟩
    · rw [State.indicatorCycle]
      omega
    · rw [List.length_cons, hobs.observe_eq, ← hcount, Int.toNat_natCast, ← hports, hline]
      rfl
  | error f =>
    rcases iterate_eq_error_iff.1 hit with ⟨hrange, rfl⟩ | ⟨hraw, hout, rfl⟩
    · have hobs := observe_captureRange pending hphase ha hn hstim hrange held.length
      rw [← State.shown_eq_replicate hstrobe, show a + n + 1 + held.length = a + n + (held.length + 1) by omega, hobs]
    · obtain ⟨pin, quanta, rfl⟩ := List.exists_cons_of_length_pos hpos
      obtain ⟨hpin, -⟩ := List.forall_mem_cons.1 hrst
      have hobs := observe_emitRange pending hphase ha hn hstim hpin hraw rfl hout quanta.length
      rw [List.length_cons, hobs]
      exact State.shown_eq_replicate hstrobe _

end Sys2Proof.Machine

/-! PROOFS. The statement about a reset inside a run (70_reset_and_hazards.md R270): the step that the reset cuts short, the cycles at the
reset values while it is held, and the step of `ALIGN` after it. -/

namespace Sys2Proof.Machine

/-- An edge at the head of the inputs, not past the end of the step, is the one at which reset takes effect. -/
theorem State.resetEdge_of_cons {s : State} {k : Nat} {level : Level} {rest : List Pins}
    (h : s.stimulus = ⟨some k, level⟩ :: rest) (hk : k ≤ phaseCycles Config.params s.PHASE) : s.resetEdge = some k :=
  State.resetEdge_eq_some.2 ⟨by simp only [State.pins, h], hk⟩

/-- A step that a reset cuts short completes no iteration and leaves none under way. -/
theorem observes_reset (pending : Option Iteration) {s : State} {k : Nat} (h : s.resetEdge = some k) :
    Observes 1 pending s ((List.range k).map (portsInCycle Config.params s) ++ [State.reset.ports]) [] none
      (s.resetRegisters.advance (k + 1)) := by
  have hrst : s.rstAsserted = true := State.rstAsserted_iff.2 ⟨k, h⟩
  have hunderWay : underWay pending s = none := if_pos hrst
  have hcompleted (t : State) : completed pending s t = [] := if_neg fun ⟨hlow, _⟩ => by cases hrst.symm.trans hlow
  have hobs := Observes.of_step pending (step_reset h)
  rwa [stepCycles_reset h, hunderWay, hcompleted] at hobs

/-- The reset state with these inputs to come, at this step and this clock. -/
def resetAt (rest : List Pins) (tick clk : Nat) : State := { State.reset with stimulus := rest, tick := tick, clk := clk }

/-- While `rst` is held high, every clock cycle is a step that shows the reset values. -/
theorem observes_heldReset (held rest : List Pins) (tick clk : Nat) (hrst : ∀ p ∈ held, p.rst = some 0) :
    Observes held.length none (resetAt (held ++ rest) tick clk) (List.replicate held.length State.reset.ports) [] none
      (resetAt rest (tick + held.length) (clk + held.length)) := by
  induction held generalizing tick clk with
  | nil => exact Observes.refl none _
  | cons pin held ih =>
    obtain ⟨hpin, hmore⟩ := List.forall_mem_cons.1 hrst
    have hedge : (resetAt (pin :: held ++ rest) tick clk).resetEdge = some 0 :=
      State.resetEdge_eq_some.2 ⟨hpin, Nat.zero_le _⟩
    have hboth := (observes_reset none hedge).trans (ih (tick + 1) (clk + 1) hmore)
    have harith (x : Nat) : x + 1 + held.length = x + (held.length + 1) := by omega
    rw [Nat.add_comm 1, harith, harith] at hboth
    exact hboth

/-- What a step shows before the edge that cuts it short: the ports as they were, with the lights of `LOOP.COMPUTE` from their cycle on. -/
theorem portsInCycle_before (s : State) (j : Nat) :
    (s.PHASE ≠ .compute ∨ j < s.indicatorCycle Config.params →
        (portsInCycle Config.params s j).ind = s.IND.code ∧ (portsInCycle Config.params s j).rearEn = s.REAR) ∧
      (s.PHASE = .compute → s.indicatorCycle Config.params ≤ j → ∀ t, exec .loopCompute s = .next t →
        (portsInCycle Config.params s j).ind = t.IND.code ∧ (portsInCycle Config.params s j).rearEn = t.REAR) := by
  refine ⟨fun hold => ?_, fun hphase hj t ht => ?_⟩
  · have hlights : s.lights Config.params j = s := if_neg fun ⟨hphase, hj⟩ => hold.elim (· hphase) hj.not_gt
    exact ⟨congrArg (fun x : State => x.IND.code) hlights, congrArg State.REAR hlights⟩
  · obtain ⟨hind, hrear⟩ := State.lights_of_compute Config.params j hphase ht hj
    exact ⟨congrArg Indicator.code hind, hrear⟩

/-- Settles O55: the step cut short, then the steps under reset, then the step of `ALIGN`. -/
theorem resetHoldsTheOutputs : Obligations.ResetHoldsTheOutputs := by
  intro s k a b held rest pending u hstim hk hrst hu
  have hedge : s.resetEdge = some k := State.resetEdge_of_cons hstim hk
  have hcut : s.resetRegisters.advance (k + 1) = resetAt (held ++ ⟨none, b⟩ :: rest) (s.tick + 1) (s.clk + (k + 1)) := by
    simp only [State.resetRegisters, State.advance, resetAt, hstim, List.cons_append, List.tail_cons]
  have hend : u = resetAt (⟨none, b⟩ :: rest) (s.tick + 1 + held.length) (s.clk + (k + 1) + held.length) := by
    rw [hu, resetAt, Nat.add_comm held.length 1, ← Nat.add_assoc s.tick, Nat.add_assoc s.clk]
  have hfirst := observes_reset pending hedge
  rw [hcut] at hfirst
  have hobs := hfirst.trans (observes_heldReset held (⟨none, b⟩ :: rest) (s.tick + 1) (s.clk + (k + 1)) hrst)
  rw [← hend, Nat.add_comm 1, List.append_assoc] at hobs
  rw [hobs.observe_eq]
  refine ⟨rfl, rfl, ⟨(List.range k).map (portsInCycle Config.params s), s.indicatorCycle Config.params, by simp, rfl,
    fun j c hc => ?before⟩, ?align⟩
  case before =>
    obtain ⟨i, hi, rfl⟩ := Option.map_eq_some_iff.1 (List.getElem?_map ▸ hc)
    obtain ⟨_, hget⟩ := List.getElem?_eq_some_iff.1 hi
    obtain rfl : j = i := (List.getElem_range _).symm.trans hget
    exact ⟨rfl, rfl, rfl, portsInCycle_before s j⟩
  case align =>
    subst hu
    rw [step_align (State.rstAsserted_of_cons rfl rfl) rfl, State.pinRead_of_cons rfl]
    cases b <;> rfl

end Sys2Proof.Machine
